-- ==== Sys2Proof/Word.lean ====
section
/-! DEFINITION. The two word types of the block (00_scope.md R9): bytes of 8 bits and the 32-bit
millisecond time base. -/

namespace Sys2Proof

/-- A byte, 8 bits (R9, R10). -/
abbrev Byte := BitVec 8

/-- The time base `TIME_W` = 32 bits, milliseconds, wrapping (R8, R53). -/
abbrev Time := BitVec 32

end Sys2Proof
end

