-- ==== Sys2Proof/Config.lean ====
section
/-! DEFINITION. The parameters a model of the block takes (00_scope.md R8), as plain data. Their
values stand in Machine/Params.lean; State holds one Config, which no instruction writes (log 6). -/

namespace Sys2Proof

/-- The quantity class of a record, numbers 0 to 7 (10_state.md R54, 30_encoding.md R118, R119). -/
inductive Tag where
  | energy | volume | power | flow | tFlow | tReturn | tDiff | status
deriving DecidableEq, Repr

/-- One row of `VIF_TABLE`: (mask, pattern, tag, exponent mask, base) (30_encoding.md R118). -/
structure VifRow where
  tag : Tag
  mask : Byte
  pattern : Byte
  expMask : Byte
  base : Nat
deriving DecidableEq, Repr

/-- The eight status flags that a status record reports (30_encoding.md R121). -/
inductive StatusFlag where
  | sensor1CableBreak | sensor2CableBreak | sensor1ShortCircuit | sensor2ShortCircuit
  | flowMeasurementFault | electronicsFault | resetOccurred | lowBattery
deriving DecidableEq, Repr

/-- The open and decided parameters of 00_scope.md R8. -/
structure Config where
  /-- `MAX_L`, the largest declared length accepted, 0 to 255 by its type (open, D5). -/
  maxL : Byte
  /-- `ACK_WINDOW_LEN`, legal values 1 to 4 (D7). -/
  ackWindowLen : Nat
  /-- `FCB_MASK` (D18, conflict C3). -/
  fcbMask : Byte
  /-- `DATA_SIG`, (payload offset, byte) pairs (D21). -/
  dataSig : List (Nat × Byte)
  /-- `REC_START`, payload offset of the first record (D21). -/
  recStart : Nat
  /-- `VIF_TABLE` (D22). -/
  vifTable : List VifRow
  /-- `STATUS_BIT`, the flag of bit 0, bit 1, … (D26). -/
  statusBit : List StatusFlag
  /-- `RESEND_ON_STEADY_TIMEOUT` (conflict C2, D31). -/
  resendOnSteadyTimeout : Bool
deriving DecidableEq, Repr

/-- The values R8 calls legal for `ACK_WINDOW_LEN`. -/
abbrev Config.legal (c : Config) : Prop := 1 ≤ c.ackWindowLen ∧ c.ackWindowLen ≤ 4

/-- A free value: what `silence_ms`, 10 bits wide, holds after a SILENCE whose value needs more bits
(44_timing_supervisor.md R290, R291; 90_conflicts.md C13). The spec states no such result, so nothing
is known of it (DESIGN CHOICE, log 10). No frame of the ROM is long enough to ask for it. -/
opaque Config.wideSilence : Nat → BitVec 10

end Sys2Proof
end

