-- ==== Sys2Proof/Machine/Params.lean ====
section
/-! DEFINITION. The values of the parameters of 00_scope.md R8: the fixed constants, and the
Config that holds the decided ones (log 6, log 18). -/

namespace Sys2Proof.Machine

/-- `START`, the frame start marker (R8). -/
def startByte : Byte := 0x68

/-- `STOP`, the frame stop marker (R8). -/
def stopByte : Byte := 0x16

/-- `ACK`, the single-byte acknowledgment (R8, R96). -/
def ackByte : Byte := 0xE5

/-- `RX_TIMEOUT_MS` (R8, R286). -/
def rxTimeoutMs : Nat := 500

/-- `INIT_GAP_MS` (R8, R286). -/
def initGapMs : Nat := 20

/-- `BAUD` (R8). -/
def baud : Nat := 2400

/-- `BITS_PER_BYTE` (R8). -/
def bitsPerByte : Nat := 11

/-- Row 1 of `VIF_TABLE` (R118, R244). -/
def energyRow : VifRow := ⟨.energy, 0x78, 0x00, 0x07, 3⟩

/-- Row 2 of `VIF_TABLE` (R118, R245). -/
def volumeRow : VifRow := ⟨.volume, 0x78, 0x10, 0x07, 6⟩

/-- Row 3 of `VIF_TABLE` (R118, R246). -/
def powerRow : VifRow := ⟨.power, 0x78, 0x28, 0x07, 3⟩

/-- Row 4 of `VIF_TABLE` (R118, R247). -/
def flowRow : VifRow := ⟨.flow, 0x78, 0x38, 0x07, 6⟩

/-- Row 5 of `VIF_TABLE` (R118, R248). -/
def tFlowRow : VifRow := ⟨.tFlow, 0x7C, 0x58, 0x03, 3⟩

/-- Row 6 of `VIF_TABLE` (R118, R249). -/
def tReturnRow : VifRow := ⟨.tReturn, 0x7C, 0x5C, 0x03, 3⟩

/-- Row 7 of `VIF_TABLE` (R118, R250). -/
def tDiffRow : VifRow := ⟨.tDiff, 0x7C, 0x60, 0x03, 3⟩

/-- `VIF_TABLE` in its order (R118). -/
def standardVifTable : List VifRow :=
  [energyRow, volumeRow, powerRow, flowRow, tFlowRow, tReturnRow, tDiffRow]

/-- The values of R8, with `MAX_L` = 255 (DESIGN CHOICE, log 6: open in the spec, 255 in its test
vectors). -/
def standardConfig : Config where
  maxL := 255
  ackWindowLen := 4
  fcbMask := 0x20
  dataSig := [(0, 0x08), (1, 0x72)]
  recStart := 2
  vifTable := standardVifTable
  statusBit := [.sensor1CableBreak, .sensor2CableBreak, .sensor1ShortCircuit,
    .sensor2ShortCircuit, .flowMeasurementFault, .electronicsFault, .resetOccurred, .lowBattery]
  resendOnSteadyTimeout := false

/-- `BUF_CAP = MAX_L + 6` (10_state.md R24). -/
def bufCap (cfg : Config) : Nat := cfg.maxL.toNat + 6

end Sys2Proof.Machine
end

