-- ==== Sys2Proof/Machine/Rom.lean ====
section
/-! DEFINITION. The checksum unit (42_validator.md R205, R206), which receive and transmit share,
and the request ROM (45_handshake_sequencer.md R300 to R306, R308). -/

namespace Sys2Proof.Machine

/-- `cs8(s)`: the sum of the bytes modulo 256 (R12, R205). -/
def cs8 (s : List Byte) : Byte := s.foldl (· + ·) 0

/-- A long frame around a payload: `68 L L 68 p cs8(p) 16` (30_encoding.md R93, R136). -/
def longFrame (p : List Byte) : List Byte :=
  [startByte, BitVec.ofNat 8 p.length, BitVec.ofNat 8 p.length, startByte] ++ p ++ [cs8 p, stopByte]

/-- REQ1 (R301). -/
def req1Frame : List Byte :=
  [0x68, 0x08, 0x08, 0x68, 0x53, 0xFE, 0x51, 0x0F, 0x00, 0x00, 0x04, 0x5C, 0x11, 0x16]

/-- REQ2 (R302). -/
def req2Frame : List Byte :=
  [0x68, 0x09, 0x09, 0x68, 0x53, 0xFE, 0x51, 0x0F, 0x00, 0x00, 0x00, 0x59, 0x2D, 0x37, 0x16]

/-- REQ3 (R303). -/
def req3Frame : List Byte :=
  [0x68, 0x08, 0x08, 0x68, 0x73, 0xFE, 0x51, 0x0F, 0x00, 0x00, 0x00, 0x5D, 0x2E, 0x16]

/-- The payload of REQ4: 17 prefix bytes and 102 zero bytes (R304). -/
def req4Payload : List Byte :=
  [0x53, 0xFE, 0x51, 0x0F, 0x00, 0x00, 0x06, 0x5C, 0x09, 0x02, 0x00, 0x00, 0x8F, 0xAD, 0xCE, 0xE5,
    0xC7] ++ List.replicate 102 0x00

/-- REQ4, its checksum computed when it is sent (R304). -/
def req4Frame : List Byte := [0x68, 0x77, 0x77, 0x68] ++ req4Payload ++ [cs8 req4Payload, 0x16]

/-- REQ5 (R305). -/
def req5Frame : List Byte :=
  [0x68, 0x09, 0x09, 0x68, 0x53, 0xFE, 0x51, 0x0F, 0x00, 0x00, 0x00, 0x59, 0x0C, 0x16, 0x16]

/-- POLLFRAME as the ROM holds it, with the placeholder 00 at index 21 (R306). -/
def pollRom : List Byte :=
  [0x68, 0x11, 0x11, 0x68, 0x53, 0xFE, 0x51, 0x0F, 0x00, 0x00, 0x01, 0x59, 0x02, 0x03, 0x04, 0x06,
    0x05, 0x07, 0x08, 0x09, 0x0B, 0x00, 0x16]

/-- The poll frame that carries a frame-control bit: byte 4 gets the mask when the bit is 1, then
byte 21 the checksum of bytes 4 to 20 (R306, R308). -/
def pollFrame (fcbMask : Byte) (fcb : Bool) : List Byte :=
  let f := if fcb then pollRom.set 4 (pollRom.getD 4 0 ||| fcbMask) else pollRom
  f.set 21 (cs8 ((f.drop 4).take 17))

end Sys2Proof.Machine
end

