-- ==== Sys2Proof/Syntax.lean ====
section
/-! DEFINITION. The operations of the block, one constructor for each row of opcode_table.json, in
the table's order, with the operands the spec's rule gives each. A constructor carries only the bits
its encoding leaves free. -/

namespace Sys2Proof

/-- The formats an input comes in (30_encoding.md R90, and the table's column "format"). `micro` is
the model's own port for operations to which the spec gives no encoding (log 3). -/
inductive Format where
  | ev | sym | frame | dif | vif | req | micro
deriving DecidableEq, Repr

/-- One input at the block's ports: its format and its bytes, first byte first (log 3). -/
structure Input where
  fmt : Format
  bytes : List Byte
deriving DecidableEq, Repr

/-- The ten errors, in the order of their codes 1 to 10 (60_exceptions.md R360). -/
inductive ErrorCode where
  | badStart | badLength | badStop | badChecksum | frameTooLong
  | unsupportedWidth | unrecognizedQuantity | truncatedRecord | linkTimeout | unknownTelegramShape
deriving DecidableEq, Repr

/-- What READFIELD returns: where the field starts, its first byte and its length in bytes
(43_record_decoder.md R222). -/
structure Field where
  start : Nat
  first : Byte
  length : Nat
deriving DecidableEq, Repr

/-- The operations of opcode_table.json. -/
inductive Instr where
  -- format EV (R91)
  /-- RESET, R142. -/
  | reset
  /-- POLL, R143. -/
  | poll
  /-- TICK(now, rx), R141. -/
  | tick (now : Time) (rx : List Byte)
  /-- EV.RESERVED, R144. -/
  | evReserved
  -- format SYM (R92)
  /-- RXBYTE(b, now), R172. -/
  | rxbyte (b : Byte) (now : Time)
  /-- SYM.ACK, byte E5, R173. -/
  | symAck (now : Time)
  /-- SYM.START, byte 68, R175. -/
  | symStart (now : Time)
  /-- SYM.IGNORE, R174. -/
  | symIgnore (b : Byte) (now : Time)
  /-- SYM.DATA, R176. -/
  | symData (b : Byte) (now : Time)
  -- format FRAME (R93)
  /-- FRAME.TOOLONG, R177. -/
  | frameToolong
  /-- FRAME.READY, R178. -/
  | frameReady
  /-- COMPLETE, R179. -/
  | complete
  /-- VALIDATE(f), R200. -/
  | validate (f : List Byte)
  /-- CHK.START, R201. -/
  | chkStart (f : List Byte)
  /-- CHK.LENGTH, R202. -/
  | chkLength (f : List Byte)
  /-- CHK.STOP, R203. -/
  | chkStop (f : List Byte)
  /-- CHK.SUM, R204. -/
  | chkSum (f : List Byte)
  /-- CS8 of a byte sequence, R205. -/
  | cs8 (bytes : List Byte)
  -- format REC (R100)
  /-- CLASSIFY(payload, was_init), R220. -/
  | classify (payload : List Byte) (wasInit : Bool)
  /-- DECODE(payload), R221. -/
  | decode (payload : List Byte)
  /-- READFIELD(payload, c), R222. -/
  | readfield (payload : List Byte) (c : Nat)
  /-- RECORD(payload, c), R230. -/
  | record (payload : List Byte) (c : Nat)
  /-- QCLASS(v, payload), R240. -/
  | qclass (v : Field) (payload : List Byte)
  -- format REC-DIF (R102, R103): e is bit 7, fff bits 6:4
  /-- DIF.C0, R233. -/
  | difC0 (e : Bool) (fff : BitVec 3)
  /-- DIF.INT8, R234: c is the record's start, avail the payload from the value on. -/
  | difInt8 (e : Bool) (fff : BitVec 3) (c : Nat) (avail : List Byte)
  /-- DIF.INT16, R235. -/
  | difInt16 (e : Bool) (fff : BitVec 3) (c : Nat) (avail : List Byte)
  /-- DIF.INT24, R236. -/
  | difInt24 (e : Bool) (fff : BitVec 3) (c : Nat) (avail : List Byte)
  /-- DIF.INT32, R237. -/
  | difInt32 (e : Bool) (fff : BitVec 3) (c : Nat) (avail : List Byte)
  /-- DIF.C5, R233. -/
  | difC5 (e : Bool) (fff : BitVec 3)
  /-- DIF.C6, R233. -/
  | difC6 (e : Bool) (fff : BitVec 3)
  /-- DIF.C7, R233. -/
  | difC7 (e : Bool) (fff : BitVec 3)
  /-- DIF.C8, R233. -/
  | difC8 (e : Bool) (fff : BitVec 3)
  /-- DIF.C9, R233. -/
  | difC9 (e : Bool) (fff : BitVec 3)
  /-- DIF.CA, R233. -/
  | difCA (e : Bool) (fff : BitVec 3)
  /-- DIF.CB, R233. -/
  | difCB (e : Bool) (fff : BitVec 3)
  /-- DIF.CC, R233. -/
  | difCC (e : Bool) (fff : BitVec 3)
  /-- DIF.CD, R233. -/
  | difCD (e : Bool) (fff : BitVec 3)
  /-- DIF.CE, R233. -/
  | difCE (e : Bool) (fff : BitVec 3)
  /-- DIF.CF, R233. -/
  | difCF (e : Bool) (fff : BitVec 3)
  -- format REC-VIF (R104, R118, R119): e is bit 7, n the exponent field
  /-- VIF.ENERGY, R244. -/
  | vifEnergy (e : Bool) (n : BitVec 3) (raw : BitVec 32)
  /-- VIF.VOLUME, R245. -/
  | vifVolume (e : Bool) (n : BitVec 3) (raw : BitVec 32)
  /-- VIF.POWER, R246. -/
  | vifPower (e : Bool) (n : BitVec 3) (raw : BitVec 32)
  /-- VIF.FLOW, R247. -/
  | vifFlow (e : Bool) (n : BitVec 3) (raw : BitVec 32)
  /-- VIF.TFLOW, R248. -/
  | vifTflow (e : Bool) (n : BitVec 2) (raw : BitVec 32)
  /-- VIF.TRETURN, R249. -/
  | vifTreturn (e : Bool) (n : BitVec 2) (raw : BitVec 32)
  /-- VIF.TDIFF, R250. -/
  | vifTdiff (e : Bool) (n : BitVec 2) (raw : BitVec 32)
  /-- VIF.STATUS, the two bytes FD 17, R251. -/
  | vifStatus (raw : BitVec 32)
  /-- VIF.OTHER, R243. -/
  | vifOther (v0 : Byte)
  -- format TIMER
  /-- SUPERVISE(now), R282. -/
  | supervise (now : Time)
  /-- TMO.LINK, R283. -/
  | tmoLink (now : Time)
  /-- TMO.GAP, R285. -/
  | tmoGap (now : Time)
  /-- SILENCE(n), R290. -/
  | silence (n : Nat)
  -- format REQ (R125)
  /-- REQ1, R301. -/
  | req1
  /-- REQ2, R302. -/
  | req2
  /-- REQ3, R303. -/
  | req3
  /-- REQ4, R304. -/
  | req4
  /-- REQ5, R305. -/
  | req5
  /-- POLLFRAME with the frame-control bit it carries, R306. -/
  | pollframe (fcb : Bool)
  /-- POLLBUILD, R308. -/
  | pollbuild
  /-- SEND(now), R310. -/
  | send (now : Time)
  /-- TX(f), R319. -/
  | tx (f : List Byte)
  -- format ERR
  /-- RAISE(code, info, mask), R366. -/
  | raise (code : ErrorCode) (info : Byte) (mask : Byte)
deriving DecidableEq, Repr

end Sys2Proof
end

