-- ==== Sys2Proof/Machine/Operands.lean ====
section
/-! DEFINITION. Every operand form: byte classes, the fields of a frame, variable-length fields, DIF
and VIF bytes, little-endian values with sign extension, exponents, records. Functions of bytes
only; they read no state. -/

namespace Sys2Proof.Machine

/-! ### Numbers and byte order -/

/-- A 32-bit number as four bytes, least significant first (R61; the model's operand layout, log 3). -/
def le32 (t : BitVec 32) : List Byte :=
  [t.extractLsb' 0 8, t.extractLsb' 8 8, t.extractLsb' 16 8, t.extractLsb' 24 8]

/-- The 32-bit number of four bytes, least significant first. -/
def ofLe32 (b0 b1 b2 b3 : Byte) : BitVec 32 := b3 ++ b2 ++ b1 ++ b0

/-- `le(s)`: the unsigned value of a byte sequence, least significant byte first (R12, R61). -/
def leNat : List Byte → Nat
  | [] => 0
  | b :: bs => b.toNat + 256 * leNat bs

/-- `sext_32(u, w)` (R12): the low `w` bits of `u` as two's complement, widened to 32 bits. -/
def sext32 (u w : Nat) : BitVec 32 := (BitVec.ofNat w u).signExtend 32

/-- The signed value of value bytes, sign-extended from the last byte present (R61, R106). -/
def signedLe (bs : List Byte) : BitVec 32 := sext32 (leNat bs) (8 * bs.length)

/-- The number a tag stands for (R54). -/
def tagNumber : Tag → Nat
  | .energy => 0
  | .volume => 1
  | .power => 2
  | .flow => 3
  | .tFlow => 4
  | .tReturn => 5
  | .tDiff => 6
  | .status => 7

/-- `1 << tag`, the tag's bit in a mask (R26, R221). -/
def tagBit (t : Tag) : Byte := 1#8 <<< tagNumber t

/-- The code of an error (R360). -/
def errorNumber : ErrorCode → Nat
  | .badStart => 1
  | .badLength => 2
  | .badStop => 3
  | .badChecksum => 4
  | .frameTooLong => 5
  | .unsupportedWidth => 6
  | .unrecognizedQuantity => 7
  | .truncatedRecord => 8
  | .linkTimeout => 9
  | .unknownTelegramShape => 10

/-- The error of a code; none for 0 and for 11 and above (R360). -/
def errorOfNumber : Nat → Option ErrorCode
  | 1 => some .badStart
  | 2 => some .badLength
  | 3 => some .badStop
  | 4 => some .badChecksum
  | 5 => some .frameTooLong
  | 6 => some .unsupportedWidth
  | 7 => some .unrecognizedQuantity
  | 8 => some .truncatedRecord
  | 9 => some .linkTimeout
  | 10 => some .unknownTelegramShape
  | _ => none

/-! ### Received-byte classes (30_encoding.md R92) -/

/-- The class of a received byte. -/
inductive SymClass where
  | ack | start | ignore | data
deriving DecidableEq, Repr

/-- R92 with the `ACK` window as a parameter (R8, R182): the class of byte `b` taken at length `len`. -/
def symClass (window len : Nat) (b : Byte) : SymClass :=
  if b = ackByte ∧ len < window then .ack
  else if len = 0 then if b = startByte then .start else .ignore
  else .data

/-! ### The long frame (30_encoding.md R93, 20_memory.md R70) -/

/-- Byte `i` of a frame; used only below the frame's length. -/
def byteAt (f : List Byte) (i : Nat) : Byte := f.getD i 0

/-- The payload range of a frame of `n` bytes, indices 4 to n - 3 (R95, R200). -/
def payloadOf (f : List Byte) : List Byte := (f.drop 4).take (f.length - 6)

/-- What the validator needs: at least the 6 bytes of header and trailer, and the length that byte 1
declares (the operand of R200). -/
abbrev frameContract (f : List Byte) : Prop :=
  6 ≤ f.length ∧ f.length = (byteAt f 1).toNat + 6

/-- CHK.START (R201, R200): none when it passes, else the info byte. -/
def startCheck (f : List Byte) : Option Byte :=
  if byteAt f 0 ≠ startByte ∨ byteAt f 3 ≠ startByte then
    some (if byteAt f 0 = startByte then byteAt f 3 else byteAt f 0)
  else none

/-- CHK.LENGTH (R202): none when it passes, else the info byte. -/
def lengthCheck (f : List Byte) : Option Byte :=
  if byteAt f 1 ≠ byteAt f 2 then some (byteAt f 2) else none

/-- CHK.STOP (R203): none when it passes, else the info byte. -/
def stopCheck (f : List Byte) : Option Byte :=
  if byteAt f (f.length - 1) ≠ stopByte then some (byteAt f (f.length - 1)) else none

/-- CHK.SUM (R204): none when it passes, else the computed sum. -/
def sumCheck (f : List Byte) : Option Byte :=
  if cs8 (payloadOf f) ≠ byteAt f (f.length - 2) then some (cs8 (payloadOf f)) else none

/-- The result of VALIDATE (R200): a sum type, so that no payload exists after a failure
(93_implementation_defined.md). -/
inductive Validated where
  | ok (payload : List Byte)
  | err (code : ErrorCode) (info : Byte)
deriving DecidableEq, Repr

/-- VALIDATE (R200): four checks, each short-circuiting. -/
def validateFrame (f : List Byte) : Validated :=
  match startCheck f, lengthCheck f, stopCheck f, sumCheck f with
  | some i, _, _, _ => .err .badStart i
  | none, some i, _, _ => .err .badLength i
  | none, none, some i, _ => .err .badStop i
  | none, none, none, some i => .err .badChecksum i
  | none, none, none, none => .ok (payloadOf f)

/-! ### Variable-length fields (30_encoding.md R101, 43_record_decoder.md R222) -/

/-- The length of the field at the head of a byte sequence: the shortest run that ends in a byte
with bit 7 clear (R101); none when the bytes end first. -/
def fieldLength : List Byte → Option Nat
  | [] => none
  | b :: bs => if b.msb then (fieldLength bs).map (· + 1) else some 1

/-- `next` of a field (R222). -/
def fieldNext (v : Field) : Nat := v.start + v.length

/-- READFIELD(payload, c) (R222); none stands for `Truncated`. -/
def readField (payload : List Byte) (c : Nat) : Option Field :=
  match payload[c]?, fieldLength (payload.drop c) with
  | some b, some k => some ⟨c, b, k⟩
  | _, _ => none

/-! ### DIF bytes and values (R102, R103, R106, R233 to R237) -/

/-- A first DIF byte from its bits: 7 `ext`, 6:4 not used, 3:0 `coding` (R102). -/
def difByte (e : Bool) (fff : BitVec 3) (coding : BitVec 4) : Byte := BitVec.ofBool e ++ fff ++ coding

/-- `d0 & 0x0F` (R102). -/
def codingOf (d0 : Byte) : Nat := (d0 &&& 0x0F).toNat

/-- What a DIF coding does with the bytes available for the value. -/
inductive CodedValue where
  | value (raw : BitVec 32) (width : Nat)
  | abort (code : ErrorCode) (info : Byte)
deriving DecidableEq, Repr

/-- The value of a record (R230, R233 to R237): the coding gives the width, any other width aborts,
too few bytes abort with the record's start offset as info (R227). -/
def codedValue (d0 : Byte) (c : Nat) (avail : List Byte) : CodedValue :=
  let w := codingOf d0
  if w < 1 ∨ 4 < w then .abort .unsupportedWidth d0
  else if avail.length < w then .abort .truncatedRecord (BitVec.ofNat 8 c)
  else .value (signedLe (avail.take w)) w

/-! ### VIF bytes (R104, R107, R118, R119, R240) -/

/-- A first VIF byte of a 3-bit class: bit 7 `ext`, 6:3 the pattern, 2:0 the exponent field. -/
def vifByte3 (e : Bool) (pattern : BitVec 4) (n : BitVec 3) : Byte := BitVec.ofBool e ++ pattern ++ n

/-- A first VIF byte of a 2-bit class: bit 7 `ext`, 6:2 the pattern, 1:0 the exponent field. -/
def vifByte2 (e : Bool) (pattern : BitVec 5) (n : BitVec 2) : Byte := BitVec.ofBool e ++ pattern ++ n

/-- Whether a row of `VIF_TABLE` matches the first VIF byte (R118). -/
def rowMatches (row : VifRow) (v0 : Byte) : Bool := (v0 &&& 0x7F) &&& row.mask == row.pattern

/-- `exp10 = (vif0 & em) - B` (R107). -/
def exponent (row : VifRow) (v0 : Byte) : Int := ((v0 &&& row.expMask).toNat : Int) - (row.base : Int)

/-- The first matching row of a VIF table gives tag and exponent (R118). -/
def tableClass (table : List VifRow) (v0 : Byte) : Option (Tag × Int) :=
  match table with
  | [] => none
  | row :: rows => if rowMatches row v0 then some (row.tag, exponent row v0) else tableClass rows v0

/-- Whether a VIF field is the status marker `FD 17` (R119, R240). -/
def isStatusMarker (v : Field) (payload : List Byte) : Bool :=
  v.first == 0xFD && decide (2 ≤ v.length) && payload[v.start + 1]? == some 0x17

/-- QCLASS(v, payload) (R240); none stands for `Other`. -/
def quantityClass (table : List VifRow) (v : Field) (payload : List Byte) : Option (Tag × Int) :=
  if isStatusMarker v payload then some (.status, 0) else tableClass table v.first

/-! ### Records (R100, R230) -/

/-- The result of RECORD (R230). -/
inductive RecordResult where
  | record (tag : Tag) (raw : BitVec 32) (exp10 : Int) (next : Nat)
  | abort (code : ErrorCode) (info : Byte)
deriving DecidableEq, Repr

/-- RECORD(payload, c) (R230), its checks in the order of D24. -/
def recordAt (table : List VifRow) (payload : List Byte) (c : Nat) : RecordResult :=
  match readField payload c with
  | none => .abort .truncatedRecord (BitVec.ofNat 8 c)
  | some d =>
    match readField payload (fieldNext d) with
    | none => .abort .truncatedRecord (BitVec.ofNat 8 c)
    | some v =>
      match codedValue d.first c (payload.drop (fieldNext v)) with
      | .abort code info => .abort code info
      | .value raw w =>
        match quantityClass table v payload with
        | none => .abort .unrecognizedQuantity v.first
        | some (tag, exp10) => .record tag raw exp10 (fieldNext v + w)

/-- Whether a payload is a data telegram (R97, R220). -/
def isDataTelegram (cfg : Config) (payload : List Byte) : Bool :=
  decide (cfg.recStart ≤ payload.length) && cfg.dataSig.all (fun p => payload[p.1]? == some p.2)

/-- The exact value a record stands for, `raw * 10^exp10` (R13, R252). -/
def scaledValue (raw : BitVec 32) (exp10 : Int) : Rat := (raw.toInt : Rat) * (10 : Rat) ^ exp10

end Sys2Proof.Machine
end

