-- ==== Sys2Proof/WellFormed.lean ====
section
/-! DEFINITION. Which terms of Instr are operations the spec's encodings can name: the conditions on
operands that a constructor's types do not already say. -/

namespace Sys2Proof

open Machine

/-- A payload fits a long frame: at most 255 bytes (30_encoding.md R94). -/
abbrev payloadFits (p : List Byte) : Prop := p.length ≤ 255

/-- The operands of an operation are ones its rule admits. Wider than the rules in three places, where
an operation is run alone: CLASSIFY with a `was_init` that disagrees with `init_step`, DECODE of a
payload that is no data telegram, and RECORD at an offset below REC_START (DESIGN CHOICE, log 22). -/
def wellFormed : Instr → Bool
  | .symIgnore b _ => decide (b ≠ startByte ∧ b ≠ ackByte)
  | .validate f => decide (frameContract f)
  | .chkStart f => decide (frameContract f)
  | .chkLength f => decide (frameContract f)
  | .chkStop f => decide (frameContract f)
  | .chkSum f => decide (frameContract f)
  | .classify p _ => decide (payloadFits p)
  | .decode p => decide (payloadFits p)
  | .readfield p c => decide (payloadFits p ∧ c < 256)
  | .record p c => decide (payloadFits p ∧ c < p.length)
  | .qclass v p => decide (payloadFits p ∧ readField p v.start = some v)
  | .difInt8 _ _ c _ => decide (c < 256)
  | .difInt16 _ _ c _ => decide (c < 256)
  | .difInt24 _ _ c _ => decide (c < 256)
  | .difInt32 _ _ c _ => decide (c < 256)
  | .vifOther v0 => (tableClass standardVifTable v0).isNone
  | .silence n => decide (n < 65536)
  | .reset | .poll | .tick _ _ | .evReserved | .rxbyte _ _ | .symAck _ | .symStart _
  | .symData _ _ | .frameToolong | .frameReady | .complete | .cs8 _
  | .difC0 _ _ | .difC5 _ _ | .difC6 _ _ | .difC7 _ _ | .difC8 _ _ | .difC9 _ _ | .difCA _ _
  | .difCB _ _ | .difCC _ _ | .difCD _ _ | .difCE _ _ | .difCF _ _
  | .vifEnergy _ _ _ | .vifVolume _ _ _ | .vifPower _ _ _ | .vifFlow _ _ _ | .vifTflow _ _ _
  | .vifTreturn _ _ _ | .vifTdiff _ _ _ | .vifStatus _
  | .supervise _ | .tmoLink _ | .tmoGap _ | .req1 | .req2 | .req3 | .req4 | .req5 | .pollframe _
  | .pollbuild | .send _ | .tx _ | .raise _ _ _ => true

end Sys2Proof
end

