-- ==== Sys2Proof/Decode.lean ====
section
/-! DEFINITION. Reading an operation from the bytes of an input (30_encoding.md), total on any bytes
and rejecting by name; the encoder beside it; and the words of opcode_table.json. The words are the
spec's (R91, R92, R93, R102 to R104, R118, R119, R301 to R306); the layout of operands the spec
calls "separate arguments", and the micro port for operations without an encoding, are the model's
(log 3). -/

namespace Sys2Proof

open Machine

/-- Why an input is no operation. -/
inductive Reject where
  /-- The input holds no byte at all. -/
  | empty
  /-- An event port value above the two bits `ev[1:0]` of R91. -/
  | eventPort
  /-- Operand bytes missing or left over. -/
  | operands
  /-- A frame whose length is not the declared length plus 6 (R200). -/
  | frameLength
  /-- A REQ frame that is none of the six of R301 to R306. -/
  | requestFrame
  /-- A micro port row number the table has no operation without encoding for. -/
  | microRow
  /-- Operands that no rule admits. -/
  | illFormed
deriving DecidableEq, Repr

/-- An operation, if its operands are well formed. -/
def checked (i : Instr) : Except Reject Instr :=
  if wellFormed i then .ok i else .error .illFormed

/-! ### Decoding, format by format -/

/-- Format EV (R91): the port code, and for TICK its arguments. -/
def decodeEv : List Byte → Except Reject Instr
  | [] => .error .empty
  | ev :: args =>
    match ev.toNat, args with
    | 0, [] => .ok .reset
    | 1, [] => .ok .poll
    | 2, t0 :: t1 :: t2 :: t3 :: rx => .ok (.tick (ofLe32 t0 t1 t2 t3) rx)
    | 3, [] => .ok .evReserved
    | n, _ => if n < 4 then .error .operands else .error .eventPort

/-- Format SYM (R92): a received byte, classified by its value and by `len`, and the tick's time. -/
def decodeSym (window len : Nat) : List Byte → Except Reject Instr
  | [] => .error .empty
  | [b, t0, t1, t2, t3] =>
    let now := ofLe32 t0 t1 t2 t3
    match symClass window len b with
    | .ack => .ok (.symAck now)
    | .start => .ok (.symStart now)
    | .ignore => .ok (.symIgnore b now)
    | .data => .ok (.symData b now)
  | _ => .error .operands

/-- Format FRAME (R93): the long frame, handed to VALIDATE. -/
def decodeFrame (f : List Byte) : Except Reject Instr :=
  if frameContract f then .ok (.validate f) else .error .frameLength

/-- Format REC-DIF (R102, R103): the first DIF byte; the four integer codings are followed by the
record's start offset and the bytes available for the value. -/
def decodeDif : List Byte → Except Reject Instr
  | [] => .error .empty
  | d0 :: args =>
    let e := d0.msb
    let fff := d0.extractLsb' 4 3
    match codingOf d0, args with
    | 0, [] => .ok (.difC0 e fff)
    | 1, c :: avail => .ok (.difInt8 e fff c.toNat avail)
    | 2, c :: avail => .ok (.difInt16 e fff c.toNat avail)
    | 3, c :: avail => .ok (.difInt24 e fff c.toNat avail)
    | 4, c :: avail => .ok (.difInt32 e fff c.toNat avail)
    | 5, [] => .ok (.difC5 e fff)
    | 6, [] => .ok (.difC6 e fff)
    | 7, [] => .ok (.difC7 e fff)
    | 8, [] => .ok (.difC8 e fff)
    | 9, [] => .ok (.difC9 e fff)
    | 10, [] => .ok (.difCA e fff)
    | 11, [] => .ok (.difCB e fff)
    | 12, [] => .ok (.difCC e fff)
    | 13, [] => .ok (.difCD e fff)
    | 14, [] => .ok (.difCE e fff)
    | 15, [] => .ok (.difCF e fff)
    | _, _ => .error .operands

/-- A first VIF byte without the status marker (R104, R118), and the raw value. -/
def decodeVifClass (v0 : Byte) (args : List Byte) : Except Reject Instr :=
  let e := v0.msb
  let n3 := v0.extractLsb' 0 3
  let n2 := v0.extractLsb' 0 2
  match tableClass standardVifTable v0, args with
  | some (.energy, _), [r0, r1, r2, r3] => .ok (.vifEnergy e n3 (ofLe32 r0 r1 r2 r3))
  | some (.volume, _), [r0, r1, r2, r3] => .ok (.vifVolume e n3 (ofLe32 r0 r1 r2 r3))
  | some (.power, _), [r0, r1, r2, r3] => .ok (.vifPower e n3 (ofLe32 r0 r1 r2 r3))
  | some (.flow, _), [r0, r1, r2, r3] => .ok (.vifFlow e n3 (ofLe32 r0 r1 r2 r3))
  | some (.tFlow, _), [r0, r1, r2, r3] => .ok (.vifTflow e n2 (ofLe32 r0 r1 r2 r3))
  | some (.tReturn, _), [r0, r1, r2, r3] => .ok (.vifTreturn e n2 (ofLe32 r0 r1 r2 r3))
  | some (.tDiff, _), [r0, r1, r2, r3] => .ok (.vifTdiff e n2 (ofLe32 r0 r1 r2 r3))
  | none, [] => .ok (.vifOther v0)
  | _, _ => .error .operands

/-- Format REC-VIF: the status marker `FD 17` is tested before the table (R119). -/
def decodeVif : List Byte → Except Reject Instr
  | [] => .error .empty
  | v0 :: args =>
    match args with
    | v1 :: r0 :: r1 :: r2 :: r3 :: [] =>
      if v0 = 0xFD ∧ v1 = 0x17 then .ok (.vifStatus (ofLe32 r0 r1 r2 r3))
      else decodeVifClass v0 args
    | _ => decodeVifClass v0 args

/-- Format REQ (R125, R126): the frame itself, all its bytes. The two words of POLLFRAME are those of
opcode_table.json, with FCB_MASK 0x20, whatever mask the configuration holds (DESIGN CHOICE, log 21). -/
def decodeReq (f : List Byte) : Except Reject Instr :=
  if f = req1Frame then .ok .req1
  else if f = req2Frame then .ok .req2
  else if f = req3Frame then .ok .req3
  else if f = req4Frame then .ok .req4
  else if f = req5Frame then .ok .req5
  else if f = pollFrame 0x20 false then .ok (.pollframe false)
  else if f = pollFrame 0x20 true then .ok (.pollframe true)
  else .error .requestFrame

/-- An operation without operands. -/
def noOperands (i : Instr) : List Byte → Except Reject Instr
  | [] => .ok i
  | _ :: _ => .error .operands

/-- An operation whose one operand is a 32-bit time. -/
def timeOperand (i : Time → Instr) : List Byte → Except Reject Instr
  | [t0, t1, t2, t3] => .ok (i (ofLe32 t0 t1 t2 t3))
  | _ => .error .operands

/-- RXBYTE's operands: the byte and the time (R172). -/
def decodeRxbyte : List Byte → Except Reject Instr
  | [b, t0, t1, t2, t3] => .ok (.rxbyte b (ofLe32 t0 t1 t2 t3))
  | _ => .error .operands

/-- CLASSIFY's operands: `was_init` as a byte 0 or 1, and the payload (R220). -/
def decodeClassify : List Byte → Except Reject Instr
  | [] => .error .operands
  | flag :: p =>
    if flag = 0 then checked (.classify p false)
    else if flag = 1 then checked (.classify p true)
    else .error .illFormed

/-- An operation on a payload at an offset (R222, R230). -/
def offsetPayload (i : List Byte → Nat → Instr) : List Byte → Except Reject Instr
  | [] => .error .operands
  | c :: p => checked (i p c.toNat)

/-- QCLASS's operands: the field, as its first byte, its start and its length, and the payload
(R240). -/
def decodeQclass : List Byte → Except Reject Instr
  | first :: start :: length :: p => checked (.qclass ⟨start.toNat, first, length.toNat⟩ p)
  | _ => .error .operands

/-- SILENCE's operand, two bytes, least significant first (R290). -/
def decodeSilence : List Byte → Except Reject Instr
  | [n0, n1] => .ok (.silence (n0.toNat + 256 * n1.toNat))
  | _ => .error .operands

/-- RAISE's operands (R366): a code of R360, the info byte and the mask. -/
def decodeRaise : List Byte → Except Reject Instr
  | [code, info, mask] =>
    match errorOfNumber code.toNat with
    | some c => .ok (.raise c info mask)
    | none => .error .illFormed
  | _ => .error .operands

/-- The micro port (log 3): an operation without an encoding of its own, by its row number in
opcode_table.json counted from 0, followed by its operands. -/
def decodeMicro : List Byte → Except Reject Instr
  | [] => .error .empty
  | row :: args =>
    if row = 4 then decodeRxbyte args
    else if row = 9 then noOperands .frameToolong args
    else if row = 10 then noOperands .frameReady args
    else if row = 11 then noOperands .complete args
    else if row = 13 then checked (.chkStart args)
    else if row = 14 then checked (.chkLength args)
    else if row = 15 then checked (.chkStop args)
    else if row = 16 then checked (.chkSum args)
    else if row = 17 then .ok (.cs8 args)
    else if row = 18 then decodeClassify args
    else if row = 19 then checked (.decode args)
    else if row = 20 then offsetPayload .readfield args
    else if row = 21 then offsetPayload .record args
    else if row = 22 then decodeQclass args
    else if row = 48 then timeOperand .supervise args
    else if row = 49 then timeOperand .tmoLink args
    else if row = 50 then timeOperand .tmoGap args
    else if row = 51 then decodeSilence args
    else if row = 58 then noOperands .pollbuild args
    else if row = 59 then timeOperand .send args
    else if row = 60 then .ok (.tx args)
    else if row = 61 then decodeRaise args
    else .error .microRow

/-- The operation an input names. A received byte is classified by the length of the candidate frame
when it is taken (R92), so decoding reads `len` and the `ACK` window. -/
def decodeInput (window len : Nat) (x : Input) : Except Reject Instr :=
  match x.fmt with
  | .ev => decodeEv x.bytes
  | .sym => decodeSym window len x.bytes
  | .frame => decodeFrame x.bytes
  | .dif => decodeDif x.bytes
  | .vif => decodeVif x.bytes
  | .req => decodeReq x.bytes
  | .micro => decodeMicro x.bytes

/-! ### Encoding -/

/-- The input that names an operation. POLLFRAME is named by the table's words, with FCB_MASK 0x20
(DESIGN CHOICE, log 21). -/
def encode : Instr → Input
  | .reset => ⟨.ev, [0]⟩
  | .poll => ⟨.ev, [1]⟩
  | .tick now rx => ⟨.ev, 2 :: (le32 now ++ rx)⟩
  | .evReserved => ⟨.ev, [3]⟩
  | .rxbyte b now => ⟨.micro, 4 :: b :: le32 now⟩
  | .symAck now => ⟨.sym, ackByte :: le32 now⟩
  | .symStart now => ⟨.sym, startByte :: le32 now⟩
  | .symIgnore b now => ⟨.sym, b :: le32 now⟩
  | .symData b now => ⟨.sym, b :: le32 now⟩
  | .frameToolong => ⟨.micro, [9]⟩
  | .frameReady => ⟨.micro, [10]⟩
  | .complete => ⟨.micro, [11]⟩
  | .validate f => ⟨.frame, f⟩
  | .chkStart f => ⟨.micro, 13 :: f⟩
  | .chkLength f => ⟨.micro, 14 :: f⟩
  | .chkStop f => ⟨.micro, 15 :: f⟩
  | .chkSum f => ⟨.micro, 16 :: f⟩
  | .cs8 s => ⟨.micro, 17 :: s⟩
  | .classify p wasInit => ⟨.micro, 18 :: (if wasInit then 1 else 0) :: p⟩
  | .decode p => ⟨.micro, 19 :: p⟩
  | .readfield p c => ⟨.micro, 20 :: BitVec.ofNat 8 c :: p⟩
  | .record p c => ⟨.micro, 21 :: BitVec.ofNat 8 c :: p⟩
  | .qclass v p => ⟨.micro, 22 :: v.first :: BitVec.ofNat 8 v.start :: BitVec.ofNat 8 v.length :: p⟩
  | .difC0 e fff => ⟨.dif, [difByte e fff 0x0]⟩
  | .difInt8 e fff c avail => ⟨.dif, difByte e fff 0x1 :: BitVec.ofNat 8 c :: avail⟩
  | .difInt16 e fff c avail => ⟨.dif, difByte e fff 0x2 :: BitVec.ofNat 8 c :: avail⟩
  | .difInt24 e fff c avail => ⟨.dif, difByte e fff 0x3 :: BitVec.ofNat 8 c :: avail⟩
  | .difInt32 e fff c avail => ⟨.dif, difByte e fff 0x4 :: BitVec.ofNat 8 c :: avail⟩
  | .difC5 e fff => ⟨.dif, [difByte e fff 0x5]⟩
  | .difC6 e fff => ⟨.dif, [difByte e fff 0x6]⟩
  | .difC7 e fff => ⟨.dif, [difByte e fff 0x7]⟩
  | .difC8 e fff => ⟨.dif, [difByte e fff 0x8]⟩
  | .difC9 e fff => ⟨.dif, [difByte e fff 0x9]⟩
  | .difCA e fff => ⟨.dif, [difByte e fff 0xA]⟩
  | .difCB e fff => ⟨.dif, [difByte e fff 0xB]⟩
  | .difCC e fff => ⟨.dif, [difByte e fff 0xC]⟩
  | .difCD e fff => ⟨.dif, [difByte e fff 0xD]⟩
  | .difCE e fff => ⟨.dif, [difByte e fff 0xE]⟩
  | .difCF e fff => ⟨.dif, [difByte e fff 0xF]⟩
  | .vifEnergy e n raw => ⟨.vif, vifByte3 e 0x0 n :: le32 raw⟩
  | .vifVolume e n raw => ⟨.vif, vifByte3 e 0x2 n :: le32 raw⟩
  | .vifPower e n raw => ⟨.vif, vifByte3 e 0x5 n :: le32 raw⟩
  | .vifFlow e n raw => ⟨.vif, vifByte3 e 0x7 n :: le32 raw⟩
  | .vifTflow e n raw => ⟨.vif, vifByte2 e 0x16 n :: le32 raw⟩
  | .vifTreturn e n raw => ⟨.vif, vifByte2 e 0x17 n :: le32 raw⟩
  | .vifTdiff e n raw => ⟨.vif, vifByte2 e 0x18 n :: le32 raw⟩
  | .vifStatus raw => ⟨.vif, 0xFD :: 0x17 :: le32 raw⟩
  | .vifOther v0 => ⟨.vif, [v0]⟩
  | .supervise now => ⟨.micro, 48 :: le32 now⟩
  | .tmoLink now => ⟨.micro, 49 :: le32 now⟩
  | .tmoGap now => ⟨.micro, 50 :: le32 now⟩
  | .silence n => ⟨.micro, [51, BitVec.ofNat 8 n, BitVec.ofNat 8 (n / 256)]⟩
  | .req1 => ⟨.req, req1Frame⟩
  | .req2 => ⟨.req, req2Frame⟩
  | .req3 => ⟨.req, req3Frame⟩
  | .req4 => ⟨.req, req4Frame⟩
  | .req5 => ⟨.req, req5Frame⟩
  | .pollframe fcb => ⟨.req, pollFrame 0x20 fcb⟩
  | .pollbuild => ⟨.micro, [58]⟩
  | .send now => ⟨.micro, 59 :: le32 now⟩
  | .tx f => ⟨.micro, 60 :: f⟩
  | .raise code info mask => ⟨.micro, [61, BitVec.ofNat 8 (errorNumber code), info, mask]⟩

/-- The class the synchronizer gives the byte of a SYM operation is that operation (R92): the part
of the encoding that `len` is. Every other operation is selected by its bytes alone. -/
abbrev symSelected (window len : Nat) : Instr → Prop
  | .symAck _ => symClass window len ackByte = .ack
  | .symStart _ => symClass window len startByte = .start
  | .symIgnore b _ => symClass window len b = .ignore
  | .symData b _ => symClass window len b = .data
  | .reset | .poll | .tick _ _ | .evReserved | .rxbyte _ _ | .frameToolong | .frameReady
  | .complete | .validate _ | .chkStart _ | .chkLength _ | .chkStop _ | .chkSum _ | .cs8 _
  | .classify _ _ | .decode _ | .readfield _ _ | .record _ _ | .qclass _ _
  | .difC0 _ _ | .difInt8 _ _ _ _ | .difInt16 _ _ _ _ | .difInt24 _ _ _ _ | .difInt32 _ _ _ _
  | .difC5 _ _ | .difC6 _ _ | .difC7 _ _ | .difC8 _ _ | .difC9 _ _ | .difCA _ _
  | .difCB _ _ | .difCC _ _ | .difCD _ _ | .difCE _ _ | .difCF _ _
  | .vifEnergy _ _ _ | .vifVolume _ _ _ | .vifPower _ _ _ | .vifFlow _ _ _ | .vifTflow _ _ _
  | .vifTreturn _ _ _ | .vifTdiff _ _ _ | .vifStatus _ | .vifOther _
  | .supervise _ | .tmoLink _ | .tmoGap _ | .silence _ | .req1 | .req2 | .req3 | .req4 | .req5
  | .pollframe _ | .pollbuild | .send _ | .tx _ | .raise _ _ _ => True

/-! ### The words of opcode_table.json -/

/-- The format a one-byte table word is read in. The table's rows of different formats share words;
the event port comes first (log 4). -/
def tableFormat (b : Byte) : Format :=
  if b.toNat < 4 then .ev
  else if b = ackByte ∨ b = startByte then .sym
  else if b.toNat < 16 ∨ 0xF0 ≤ b.toNat then .dif
  else if (tableClass standardVifTable b).isSome then .vif
  else .sym

/-- How many zero operand bytes follow a one-byte table word. -/
def zeroOperands (fmt : Format) (b : Byte) : Nat :=
  match fmt with
  | .ev => if b = 2 then 4 else 0
  | .sym => 4
  | .dif => if 1 ≤ codingOf b ∧ codingOf b ≤ 4 then 1 + codingOf b else 0
  | .vif => 4
  | .frame | .req | .micro => 0

/-- The low `k` bytes of a number, least significant first. -/
def littleBytes : Nat → Nat → List Byte
  | 0, _ => []
  | k + 1, w => BitVec.ofNat 8 w :: littleBytes k (w / 256)

/-- The input that a table word of `nbits` bits is, laid out as the block takes it: one byte; one
16-bit word, `FD17` with its high byte first as the table writes it (R119, log 17), and any other
read as RAISE's, with the code in bits 10:1 (log 4); or, above 16 bits, a request frame, byte 0
first. -/
def tableInput (nbits w : Nat) : Input :=
  if nbits ≤ 8 then
    let b : Byte := BitVec.ofNat 8 w
    ⟨tableFormat b, b :: List.replicate (zeroOperands (tableFormat b) b) 0⟩
  else if nbits ≤ 16 then
    if w % 65536 = 0xFD17 then ⟨.vif, 0xFD :: 0x17 :: List.replicate 4 0⟩
    else ⟨.micro, [61, if w / 2 % 1024 ≤ 10 then BitVec.ofNat 8 (w / 2) else 0, 0, 0]⟩
  else ⟨.req, littleBytes (nbits / 8) w⟩

/-- The operation the decoder reads from a table word, a received byte being taken while hunting and
with the window of R8. -/
def decodeTableWord (nbits w : Nat) : Option Instr :=
  match decodeInput 4 0 (tableInput nbits w) with
  | .ok i => some i
  | .error _ => none

end Sys2Proof
end

