-- ==== Sys2Proof/Machine/State.lean ====
section
/-! DEFINITION. The state of the block (10_state.md R20), the output events (R54), what a step can
stop with, and the state right after reset (R55). Plain data throughout. -/

namespace Sys2Proof.Machine

/-- The frame buffer: (index, byte) pairs, indices strictly rising. An index that is not listed holds
no byte: reading it gives none (R21, R55; log 7). -/
abbrev Memory := List Host.Cell

/-- The thirteen values of `init_step` (R31). -/
inductive InitStep where
  | idle          -- 0x00
  | idleAcked     -- 0x10
  | step1         -- 0x01
  | step1Acked    -- 0x11
  | step2         -- 0x02
  | step2Acked    -- 0x12
  | step3         -- 0x03
  | step3Acked    -- 0x13
  | step4         -- 0x04
  | step4Acked    -- 0x14
  | step5         -- 0x05
  | step5Acked    -- 0x15
  | steady        -- 0xFF
deriving DecidableEq, Repr

/-- The result names of RXBYTE (41_synchronizer.md R171). -/
inductive FeedResult where
  | idle | accumulating | frameReady | frameTooLong
deriving DecidableEq, Repr

/-- The output events (R54). -/
inductive OutputEvent where
  | tx (frame : List Byte)
  | record (tag : Tag) (raw : BitVec 32) (exp10 : Int)
  | telegramDone (seen : Byte)
  | initReply
  | err (code : ErrorCode) (info : Byte)
  | noData (mask : Byte)
deriving DecidableEq, Repr

/-- The value that an operation returns to whoever runs it on its own (log 1). -/
inductive MicroResult where
  /-- No operation that returns a value has run in this step. -/
  | none
  /-- CS8's sum (R205). -/
  | byte (b : Byte)
  /-- A CHK.* check passed (R201 to R204). -/
  | passed
  /-- A CHK.* check or VALIDATE failed (R200). -/
  | failed (code : ErrorCode) (info : Byte)
  /-- VALIDATE's Ok(payload) (R200). -/
  | payload (p : List Byte)
  /-- READFIELD's field (R222). -/
  | field (v : Field)
  /-- READFIELD's Truncated (R222). -/
  | truncated
  /-- A DIF integer coding's value (R234 to R237). -/
  | value (raw : BitVec 32)
  /-- An Abort(code, info) (R230, R233, R243). -/
  | abort (code : ErrorCode) (info : Byte)
  /-- QCLASS's or a VIF class's tag and exponent (R240, R244 to R251). -/
  | quantity (tag : Tag) (exp10 : Int)
  /-- QCLASS's Other (R240). -/
  | other
  /-- RECORD's Rec(tag, raw, exp10, next) (R230). -/
  | record (tag : Tag) (raw : BitVec 32) (exp10 : Int) (next : Nat)
  /-- The frame that a request row or POLLBUILD gives (R301 to R308). -/
  | frame (f : List Byte)
deriving DecidableEq, Repr

/-- Why the machine stops. No state that a run of events reaches raises one (log 7, log 9). -/
inductive Fault where
  /-- Raised by an append to a full buffer: `BufAppend` is defined only for `len < BUF_CAP` (R12,
  R24). Safe: the model stops where the spec gives no effect. -/
  | bufferFull
  /-- Raised by a read of a byte that the buffer does not hold: such a read "is never performed"
  (R21, R68). Safe. -/
  | bufferUnreadable
  /-- Raised by COMPLETE, VALIDATE or a check on fewer than 6 bytes: the operand of R200 has at
  least 6. Safe. -/
  | frameTooShort
deriving DecidableEq, Repr

/-- Why a step is refused. -/
inductive Refusal where
  /-- Raised by exec for an operation without a meaning; none is left. Safe. -/
  | notModelled (mnemonic : String)
  /-- Raised by step for an input that no encoding reads (30_encoding.md; log 3). Safe. -/
  | undecodable (why : Reject)
deriving DecidableEq, Repr

/-- The state: R20's tuple, the configuration, and the model's own fields. -/
structure State where
  /-- The parameters of 00_scope.md R8, fixed for the machine. -/
  cfg : Config
  /-- `buf` (R21). -/
  buf : Memory
  /-- `len` (R22). -/
  len : Nat
  /-- `init_step` (R30, R31). -/
  initStep : InitStep
  /-- `fcb` (R33). -/
  fcb : Bool
  /-- `reply_pending` (R34). -/
  replyPending : Bool
  /-- `send_trigger` (R35). -/
  sendTrigger : Bool
  /-- `last_rx_ms` (R36). -/
  lastRxMs : Time
  /-- `last_tx_ms` (R37). -/
  lastTxMs : Time
  /-- `silence_ms`, 10 bits (R38, 20_memory.md R64). -/
  silenceMs : BitVec 10
  /-- `err_last`, 4 bits (R39). -/
  errLast : BitVec 4
  /-- The model's own: the inputs the environment has presented, oldest first (log 2). -/
  inputs : List Input
  /-- The model's own: the output events of the current input, in order (R54, log 12). -/
  out : List OutputEvent
  /-- The model's own: the feed results of the current input's bytes (R170, log 12). -/
  feeds : List FeedResult
  /-- The model's own: the value of an operation run on its own (log 1). -/
  res : MicroResult
deriving DecidableEq, Repr

/-- The block right after reset (10_state.md R55, 70_reset_and_hazards.md R410). -/
def State.reset : State where
  cfg := standardConfig
  buf := []
  len := 0
  initStep := .idle
  fcb := false
  replyPending := false
  sendTrigger := false
  lastRxMs := 0
  lastTxMs := 0
  silenceMs := 0
  errLast := 0
  inputs := []
  out := []
  feeds := []
  res := .none

end Sys2Proof.Machine
end

