-- ==== Sys2Proof/Machine/Flags.lean ====
section
/-! DEFINITION. The flags of 10_state.md R40 and the register `init_step` they share (R30 to R35),
and the status flags that a status record reports (30_encoding.md R120, R121). -/

namespace Sys2Proof.Machine

/-- The 8-bit code of an `init_step` value (R31). -/
def initCode : InitStep → BitVec 8
  | .idle => 0x00
  | .idleAcked => 0x10
  | .step1 => 0x01
  | .step1Acked => 0x11
  | .step2 => 0x02
  | .step2Acked => 0x12
  | .step3 => 0x03
  | .step3Acked => 0x13
  | .step4 => 0x04
  | .step4Acked => 0x14
  | .step5 => 0x05
  | .step5Acked => 0x15
  | .steady => 0xFF

/-- `init_step & 0x0F` (R30). -/
def stepNumber (i : InitStep) : Nat := (initCode i &&& 0x0F).toNat

/-- "Initialization is in progress": `init_step != 0xFF` (D16). -/
def inInit (i : InitStep) : Bool := i != .steady

/-- The `acked` bit during initialization: bit 4 of `init_step`, `init_step` not 0xFF (R30, R32). -/
def acked : InitStep → Bool
  | .idleAcked | .step1Acked | .step2Acked | .step3Acked | .step4Acked | .step5Acked => true
  | .idle | .step1 | .step2 | .step3 | .step4 | .step5 | .steady => false

/-- `if init_step != 0xFF: init_step <- init_step | 0x10` (R32, R173, R180). -/
def setAcked : InitStep → InitStep
  | .idle | .idleAcked => .idleAcked
  | .step1 | .step1Acked => .step1Acked
  | .step2 | .step2Acked => .step2Acked
  | .step3 | .step3Acked => .step3Acked
  | .step4 | .step4Acked => .step4Acked
  | .step5 | .step5Acked => .step5Acked
  | .steady => .steady

/-- The value of `init_step` after a SEND (R31, R320). -/
def afterSend : InitStep → InitStep
  | .idle | .idleAcked | .step1 => .step1
  | .step1Acked | .step2 => .step2
  | .step2Acked | .step3 => .step3
  | .step3Acked | .step4 => .step4
  | .step4Acked | .step5 => .step5
  | .step5Acked | .steady => .steady

/-- The flag byte of a status value, `bits[7:0]` of `raw` (R120, R251). -/
def flagByte (raw : BitVec 32) : Byte := raw.extractLsb' 0 8

/-- The flags of the set bits of a flag byte, in ascending bit order, under `STATUS_BIT` (R121). -/
def statusFlags (statusBit : List StatusFlag) (flags : Byte) : List StatusFlag :=
  ((List.range 8).zip statusBit).filterMap fun p => if flags.getLsbD p.1 then some p.2 else none

end Sys2Proof.Machine
end

