-- ==== Sys2Proof/Machine/Ops.lean ====
section
/-! DEFINITION. The named operations over the frame buffer, the outputs and the flags that every
meaning is written with: the primitives of 00_scope.md R12 and the error entry sequence of
60_exceptions.md R366 (the block's exception entry). There is no return from an error: R368. -/

namespace Sys2Proof.Machine

/-- What an operation on the state answers. -/
abbrev Result := Host.Outcome State Fault Refusal

/-- Goes on with `k` if `r` answered a next state. -/
def andThen (r : Result) (k : State → Result) : Result :=
  match r with
  | .next s => k s
  | .fault e => .fault e
  | .refused e => .refused e

/-! ### The frame buffer -/

/-- The byte at an index; none where no byte is held. -/
def Memory.read : Memory → Nat → Option Byte
  | [], _ => none
  | (a, b) :: m, i => if i = a then some b else Memory.read m i

/-- Writes one byte, keeping the indices strictly rising. -/
def Memory.write : Memory → Nat → Byte → Memory
  | [], i, v => [(i, v)]
  | (a, b) :: m, i, v =>
    if i < a then (i, v) :: (a, b) :: m
    else if i = a then (a, v) :: m
    else (a, b) :: Memory.write m i v

/-- Every index of the memory is at least `lo`, and they rise strictly. -/
def Memory.risingFrom : Nat → Memory → Bool
  | _, [] => true
  | lo, (a, _) :: m => decide (lo ≤ a) && Memory.risingFrom (a + 1) m

/-- The canonical form: indices strictly rising. An unlisted index holds no byte, so no entry can
repeat what an unlisted one reads as. -/
def Memory.wf (m : Memory) : Bool := Memory.risingFrom 0 m

/-- The bytes at `k` indices from `i` on; none if one of them is not held. -/
def Memory.readRange (m : Memory) : Nat → Nat → Option (List Byte)
  | _, 0 => some []
  | i, k + 1 =>
    match Memory.read m i, Memory.readRange m (i + 1) k with
    | some b, some bs => some (b :: bs)
    | _, _ => none

/-- `BufRead(i)`, defined only for `i < len` (R12). -/
def bufRead (s : State) (i : Nat) : Option Byte := if i < s.len then Memory.read s.buf i else none

/-- `buf[0 .. len-1]`, the candidate frame (R21). -/
def candidate (s : State) : Option (List Byte) := Memory.readRange s.buf 0 s.len

/-- `BufAppend(b)`, defined only for `len < BUF_CAP` (R12). -/
def bufAppend (b : Byte) (s : State) : Result :=
  if s.len < bufCap s.cfg then
    .next { s with buf := Memory.write s.buf s.len b, len := s.len + 1 }
  else .fault .bufferFull

/-- `BufClear()` (R12): `len <- 0`; the bytes become unspecified, and the model drops them (log 7). -/
def bufClear (s : State) : State := { s with buf := [], len := 0 }

/-! ### Outputs and results -/

/-- `emit E(args)` (R12). -/
def emit (e : OutputEvent) (s : State) : State := { s with out := s.out ++ [e] }

/-- The feed result of one byte (R171). -/
def pushFeed (r : FeedResult) (s : State) : State := { s with feeds := s.feeds ++ [r] }

/-- Leaves the value an operation returns (log 1). -/
def setResult (r : MicroResult) (s : State) : State := { s with res := r }

/-! ### Flags -/

/-- `last_rx_ms <- now`, the first line of RXBYTE (R172, R185). -/
def noteRx (now : Time) (s : State) : State := { s with lastRxMs := now }

/-- `reply_pending <- 0` (R34). -/
def clearReply (s : State) : State := { s with replyPending := false }

/-- `send_trigger <- 1` (R35). -/
def setTrigger (s : State) : State := { s with sendTrigger := true }

/-- Sets the `acked` bit while initialization is in progress (R32). -/
def ackStep (s : State) : State := { s with initStep := setAcked s.initStep }

/-! ### The error entry sequence -/

/-- `raise NAME(info) with mask m` (R366): `err_last <- code`, then ERR(code, info), then NODATA(m),
and nothing else. The default mask is 0xFF, written out where a rule raises. -/
def raiseError (code : ErrorCode) (info mask : Byte) (s : State) : State :=
  emit (.noData mask) (emit (.err code info) { s with errLast := BitVec.ofNat 4 (errorNumber code) })

/-! ### Time -/

/-- `elapsed(now, t) = (now - t) mod 2^32` (R12, R281). -/
def elapsed (now t : Time) : Nat := (now - t).toNat

/-! ### Taking the next input -/

/-- The input that the next step takes, if one is pending (log 2). -/
def pendingInput (s : State) : Option Input := s.inputs.head?

/-- The state in which an input's operation runs: the input is taken from the ports, and the output
list and the results of the input before are gone (R140, log 12). -/
def beginInput (s : State) : State :=
  { s with inputs := s.inputs.tail, out := [], feeds := [], res := .none }

/-- The operation an input names in a state: a received byte is classified by `len` (R92). -/
def inputInstr (s : State) (x : Input) : Except Reject Instr :=
  decodeInput s.cfg.ackWindowLen s.len x

end Sys2Proof.Machine
end

