-- ==== Sys2Proof/Machine/Dif.lean ====
section
/-! DEFINITION. The sixteen DIF codings (43_record_decoder.md R233 to R237), each run on its own: it
returns the value it reads, or the abort (log 15). -/

namespace Sys2Proof.Machine

/-- What a DIF coding returns. -/
def codedResult : CodedValue → MicroResult
  | .value raw _ => .value raw
  | .abort code info => .abort code info

/-- Runs the coding of a first DIF byte on the bytes available for its value. -/
def runCoding (d0 : Byte) (c : Nat) (avail : List Byte) (s : State) : Result :=
  .next (setResult (codedResult (codedValue d0 c avail)) s)

/-- DIF.C0 (R233): abort, no value byte read. -/
def execDifC0 (e : Bool) (fff : BitVec 3) (s : State) : Result := runCoding (difByte e fff 0x0) 0 [] s

/-- DIF.INT8 (R234). -/
def execDifInt8 (e : Bool) (fff : BitVec 3) (c : Nat) (avail : List Byte) (s : State) : Result :=
  runCoding (difByte e fff 0x1) c avail s

/-- DIF.INT16 (R235). -/
def execDifInt16 (e : Bool) (fff : BitVec 3) (c : Nat) (avail : List Byte) (s : State) : Result :=
  runCoding (difByte e fff 0x2) c avail s

/-- DIF.INT24 (R236). -/
def execDifInt24 (e : Bool) (fff : BitVec 3) (c : Nat) (avail : List Byte) (s : State) : Result :=
  runCoding (difByte e fff 0x3) c avail s

/-- DIF.INT32 (R237). -/
def execDifInt32 (e : Bool) (fff : BitVec 3) (c : Nat) (avail : List Byte) (s : State) : Result :=
  runCoding (difByte e fff 0x4) c avail s

/-- DIF.C5 (R233): abort, no value byte read. -/
def execDifC5 (e : Bool) (fff : BitVec 3) (s : State) : Result := runCoding (difByte e fff 0x5) 0 [] s

/-- DIF.C6 (R233): abort, no value byte read. -/
def execDifC6 (e : Bool) (fff : BitVec 3) (s : State) : Result := runCoding (difByte e fff 0x6) 0 [] s

/-- DIF.C7 (R233): abort, no value byte read. -/
def execDifC7 (e : Bool) (fff : BitVec 3) (s : State) : Result := runCoding (difByte e fff 0x7) 0 [] s

/-- DIF.C8 (R233): abort, no value byte read. -/
def execDifC8 (e : Bool) (fff : BitVec 3) (s : State) : Result := runCoding (difByte e fff 0x8) 0 [] s

/-- DIF.C9 (R233): abort, no value byte read. -/
def execDifC9 (e : Bool) (fff : BitVec 3) (s : State) : Result := runCoding (difByte e fff 0x9) 0 [] s

/-- DIF.CA (R233): abort, no value byte read. -/
def execDifCA (e : Bool) (fff : BitVec 3) (s : State) : Result := runCoding (difByte e fff 0xA) 0 [] s

/-- DIF.CB (R233): abort, no value byte read. -/
def execDifCB (e : Bool) (fff : BitVec 3) (s : State) : Result := runCoding (difByte e fff 0xB) 0 [] s

/-- DIF.CC (R233): abort, no value byte read. -/
def execDifCC (e : Bool) (fff : BitVec 3) (s : State) : Result := runCoding (difByte e fff 0xC) 0 [] s

/-- DIF.CD (R233): abort, no value byte read. -/
def execDifCD (e : Bool) (fff : BitVec 3) (s : State) : Result := runCoding (difByte e fff 0xD) 0 [] s

/-- DIF.CE (R233): abort, no value byte read. -/
def execDifCE (e : Bool) (fff : BitVec 3) (s : State) : Result := runCoding (difByte e fff 0xE) 0 [] s

/-- DIF.CF (R233): abort, no value byte read. -/
def execDifCF (e : Bool) (fff : BitVec 3) (s : State) : Result := runCoding (difByte e fff 0xF) 0 [] s

end Sys2Proof.Machine
end

