-- ==== Sys2Proof/Machine/Errors.lean ====
section
/-! DEFINITION. The error entry sequence run on its own (60_exceptions.md R366). -/

namespace Sys2Proof.Machine

/-- RAISE(code, info, mask) (R366). Run alone it raises any code in any state, and does no more than the
entry sequence (DESIGN CHOICE, log 8, log 22). -/
def execRaise (code : ErrorCode) (info mask : Byte) (s : State) : Result :=
  .next (raiseError code info mask s)

end Sys2Proof.Machine
end

