-- ==== Sys2Proof/Machine/Supervisor.lean ====
section
/-! DEFINITION. The timing supervisor and the silence-delay generator (44_timing_supervisor.md R280
to R292). -/

namespace Sys2Proof.Machine

/-- Idle time: since the later of the last byte and the last transmission (R287). -/
def idleTime (now : Time) (s : State) : Nat := min (elapsed now s.lastRxMs) (elapsed now s.lastTxMs)

/-- The condition of TMO.LINK: armed (R284), and idle for longer than the threshold (R283). -/
abbrev linkTimedOut (now : Time) (s : State) : Prop :=
  (s.replyPending = true ∨ s.len ≠ 0) ∧ rxTimeoutMs + s.silenceMs.toNat < idleTime now s

/-- What the receive timeout does (R282, R283). -/
def linkTimeout (s : State) : State :=
  let t := raiseError .linkTimeout 0 0xFF (clearReply (bufClear s))
  if inInit s.initStep || s.cfg.resendOnSteadyTimeout then setTrigger t else t

/-- TMO.LINK (R283). -/
def tmoLink (now : Time) (s : State) : State := if linkTimedOut now s then linkTimeout s else s

/-- The condition of TMO.GAP (R285): `acked` is set during initialization and 20 ms have passed since
the last byte. -/
abbrev gapPassed (now : Time) (s : State) : Prop :=
  acked s.initStep = true ∧ initGapMs ≤ elapsed now s.lastRxMs

/-- TMO.GAP (R285). -/
def tmoGap (now : Time) (s : State) : State := if gapPassed now s then setTrigger s else s

/-- SUPERVISE(now) (R282): the two rules one after the other. -/
def supervise (now : Time) (s : State) : State := tmoGap now (tmoLink now s)

/-- SILENCE's value, `floor(n * 11 * 1000 / 2400)`, the multiplication first (R290). -/
def silenceFor (n : Nat) : Nat := n * bitsPerByte * 1000 / baud

/-- What the 10-bit register holds after SILENCE(n): the value where it fits, which is for `n` up to 223
(R20, R38), and a free value beyond (DESIGN CHOICE, log 10). -/
def silenceRegister (n : Nat) : BitVec 10 :=
  if silenceFor n < 1024 then BitVec.ofNat 10 (silenceFor n) else Config.wideSilence n

/-- SILENCE(n) (R290). -/
def silence (n : Nat) (s : State) : State := { s with silenceMs := silenceRegister n }

/-- SUPERVISE (R282). -/
def execSupervise (now : Time) (s : State) : Result := .next (supervise now s)

/-- TMO.LINK (R283). -/
def execTmoLink (now : Time) (s : State) : Result := .next (tmoLink now s)

/-- TMO.GAP (R285). -/
def execTmoGap (now : Time) (s : State) : Result := .next (tmoGap now s)

/-- SILENCE (R290). -/
def execSilence (n : Nat) (s : State) : Result := .next (silence n s)

end Sys2Proof.Machine
end

