-- ==== Sys2Proof/Machine/Sequencer.lean ====
section
/-! DEFINITION. The handshake sequencer, its use of the request ROM and the frame-control toggle
(45_handshake_sequencer.md R300 to R321). -/

namespace Sys2Proof.Machine

/-- POLLBUILD's toggle: `fcb <- fcb xor 1` (R308). -/
def toggleFcb (s : State) : State := { s with fcb := !s.fcb }

/-- The frame POLLBUILD builds from the toggled bit (R308). -/
def builtPoll (s : State) : List Byte := pollFrame s.cfg.fcbMask (!s.fcb)

/-- The frame a SEND transmits, by the `init_step` it finds (R31, R310 to R316). -/
def sendFrame (s : State) : List Byte :=
  match s.initStep with
  | .idle | .idleAcked | .step1 => req1Frame
  | .step1Acked | .step2 => req2Frame
  | .step2Acked | .step3 => req3Frame
  | .step3Acked | .step4 => req4Frame
  | .step4Acked | .step5 => req5Frame
  | .step5Acked | .steady => builtPoll s

/-- What a SEND does to the sequencer's registers before it transmits: the trigger is consumed, the
step advances, begins or is retried, and POLLBUILD toggles `fcb` (R310). -/
def sendSelect (s : State) : State :=
  let t := { s with sendTrigger := false, initStep := afterSend s.initStep }
  match s.initStep with
  | .step5Acked | .steady => toggleFcb t
  | .idle | .idleAcked | .step1 | .step1Acked | .step2 | .step2Acked | .step3 | .step3Acked
  | .step4 | .step4Acked | .step5 => t

/-- SEND(now) (R310): the frame goes out, then the time, the silence offset and `reply_pending` are
recorded. -/
def sendOp (now : Time) (s : State) : State :=
  let t := silence (sendFrame s).length { emit (.tx (sendFrame s)) (sendSelect s) with lastTxMs := now }
  { t with replyPending := true }

/-- Phase 3 of TICK (R141, R145): at most one SEND. -/
def sendIfDue (now : Time) (s : State) : State :=
  if s.sendTrigger = true ∧ s.replyPending = false then sendOp now s else s

/-- Leaves a request frame as the frame `f` of R310 (log 14). -/
def loadFrame (f : List Byte) (s : State) : Result := .next (setResult (.frame f) s)

/-- REQ1 (R301). -/
def execReq1 (s : State) : Result := loadFrame req1Frame s

/-- REQ2 (R302). -/
def execReq2 (s : State) : Result := loadFrame req2Frame s

/-- REQ3 (R303). -/
def execReq3 (s : State) : Result := loadFrame req3Frame s

/-- REQ4 (R304). -/
def execReq4 (s : State) : Result := loadFrame req4Frame s

/-- REQ5 (R305). -/
def execReq5 (s : State) : Result := loadFrame req5Frame s

/-- POLLFRAME (R306): the poll frame with the frame-control bit given, under the configuration's
FCB_MASK; the words that name the operation have the mask 0x20 (DESIGN CHOICE, log 21). -/
def execPollframe (fcb : Bool) (s : State) : Result := loadFrame (pollFrame s.cfg.fcbMask fcb) s

/-- POLLBUILD (R308): the bit is toggled first, then the frame is built from its new value. -/
def execPollbuild (s : State) : Result := loadFrame (builtPoll s) (toggleFcb s)

/-- SEND (R310). -/
def execSend (now : Time) (s : State) : Result := .next (sendOp now s)

/-- TX(f) (R319). -/
def execTx (f : List Byte) (s : State) : Result := .next (emit (.tx f) s)

end Sys2Proof.Machine
end

