-- ==== Sys2Proof/Machine/Decoder.lean ====
section
/-! DEFINITION. The record decoder (43_record_decoder.md R220 to R231, R240). READFIELD, QCLASS and
RECORD stand in Operands.lean; here are the telegram classification, the decode loop and the
operations run on their own. -/

namespace Sys2Proof.Machine

/-- The loop of DECODE (R221): `cur` and `seen` are its transients (R26). `fuel` bounds the rounds;
every record that does not abort moves `cur` on by at least 3 (R221 (b)), so the payload's length is
fuel enough (decodeLoop_fuel in Laws). -/
def decodeLoop : Nat → List Byte → Nat → Byte → State → State
  | 0, _, _, seen, s => emit (.telegramDone seen) s
  | fuel + 1, payload, cur, seen, s =>
    if cur < payload.length then
      match recordAt s.cfg.vifTable payload cur with
      | .abort code info => raiseError code info (0xFF &&& ~~~seen) s
      | .record tag raw exp10 next =>
        decodeLoop fuel payload next (seen ||| tagBit tag) (emit (.record tag raw exp10) s)
    else emit (.telegramDone seen) s

/-- DECODE(payload) (R221, R231). -/
def decodePayload (payload : List Byte) (s : State) : State :=
  decodeLoop payload.length payload s.cfg.recStart 0 s

/-- CLASSIFY(payload, was_init) (R220). -/
def classifyPayload (payload : List Byte) (wasInit : Bool) (s : State) : State :=
  if isDataTelegram s.cfg payload then decodePayload payload s
  else if wasInit then emit .initReply s
  else raiseError .unknownTelegramShape (payload.headD 0) 0xFF s

/-- What READFIELD returns (R222). -/
def fieldResult : Option Field → MicroResult
  | none => .truncated
  | some v => .field v

/-- What QCLASS returns (R240). -/
def quantityResult : Option (Tag × Int) → MicroResult
  | none => .other
  | some (tag, exp10) => .quantity tag exp10

/-- What RECORD returns (R230). -/
def recordResult : RecordResult → MicroResult
  | .record tag raw exp10 next => .record tag raw exp10 next
  | .abort code info => .abort code info

/-- CLASSIFY (R220). Run alone it follows its operand `was_init`, also where that disagrees with
`init_step`: error 10 during initialization (against R364), INIT_REPLY in the steady state (DESIGN
CHOICE, log 22). -/
def execClassify (payload : List Byte) (wasInit : Bool) (s : State) : Result :=
  .next (classifyPayload payload wasInit s)

/-- DECODE (R221). Run alone it decodes any payload: that the payload is a data telegram is CLASSIFY's
test, and it is not made again here (DESIGN CHOICE, log 22). -/
def execDecode (payload : List Byte) (s : State) : Result := .next (decodePayload payload s)

/-- READFIELD (R222). -/
def execReadfield (payload : List Byte) (c : Nat) (s : State) : Result :=
  .next (setResult (fieldResult (readField payload c)) s)

/-- RECORD (R230): the record is returned; DECODE emits it. Run alone it takes any offset, below
REC_START too (DESIGN CHOICE, log 22). -/
def execRecord (payload : List Byte) (c : Nat) (s : State) : Result :=
  .next (setResult (recordResult (recordAt s.cfg.vifTable payload c)) s)

/-- QCLASS (R240). -/
def execQclass (v : Field) (payload : List Byte) (s : State) : Result :=
  .next (setResult (quantityResult (quantityClass s.cfg.vifTable v payload)) s)

end Sys2Proof.Machine
end

