-- ==== Sys2Proof/Machine/Validator.lean ====
section
/-! DEFINITION. The frame validator and the checksum unit run on their own (42_validator.md R200 to
R205). The checks themselves stand in Operands.lean and Rom.lean. -/

namespace Sys2Proof.Machine

/-- Returns what an operation on a frame finds; the frame has at least 6 bytes, the least its operand
can have (R200, log 9). -/
def onFrame (f : List Byte) (found : MicroResult) (s : State) : Result :=
  if f.length < 6 then .fault .frameTooShort else .next (setResult found s)

/-- What VALIDATE returns (R200). -/
def validatedResult : Validated → MicroResult
  | .ok p => .payload p
  | .err code info => .failed code info

/-- What one check returns: it passes, or it fails with its own error (R201 to R204). -/
def checkResult (code : ErrorCode) : Option Byte → MicroResult
  | none => .passed
  | some info => .failed code info

/-- VALIDATE (R200): writes no state; the classification is returned. It and the four checks take 6
bytes or more, whatever length byte 1 declares (DESIGN CHOICE, log 9). -/
def execValidate (f : List Byte) (s : State) : Result :=
  onFrame f (validatedResult (validateFrame f)) s

/-- CHK.START (R201). -/
def execChkStart (f : List Byte) (s : State) : Result :=
  onFrame f (checkResult .badStart (startCheck f)) s

/-- CHK.LENGTH (R202). -/
def execChkLength (f : List Byte) (s : State) : Result :=
  onFrame f (checkResult .badLength (lengthCheck f)) s

/-- CHK.STOP (R203). -/
def execChkStop (f : List Byte) (s : State) : Result :=
  onFrame f (checkResult .badStop (stopCheck f)) s

/-- CHK.SUM (R204). -/
def execChkSum (f : List Byte) (s : State) : Result :=
  onFrame f (checkResult .badChecksum (sumCheck f)) s

/-- CS8 (R205). -/
def execCs8 (bytes : List Byte) (s : State) : Result := .next (setResult (.byte (cs8 bytes)) s)

end Sys2Proof.Machine
end

