-- ==== Sys2Proof/Machine/Synchronizer.lean ====
section
/-! DEFINITION. The byte synchronizer and frame buffer (41_synchronizer.md R170 to R185). An operation
of the table that has a condition does nothing where its condition does not hold (log 8). -/

namespace Sys2Proof.Machine

/-! ### A complete candidate frame -/

/-- COMPLETE on the candidate frame `f` (R179, R180), after the frame was read from the buffer. -/
def completeFrame (f : List Byte) (s : State) : State :=
  match validateFrame f with
  | .err code info => raiseError code info 0xFF (bufClear (clearReply s))
  | .ok payload => bufClear (classifyPayload payload (inInit s.initStep) (ackStep (clearReply s)))

/-- COMPLETE() (R179). -/
def completeOp (s : State) : Result :=
  match candidate s with
  | none => .fault .bufferUnreadable
  | some f => if f.length < 6 then .fault .frameTooShort else .next (completeFrame f s)

/-- FRAME.READY's operation (R178). -/
def frameReadyOp (s : State) : Result :=
  andThen (completeOp s) fun t => .next (pushFeed .frameReady t)

/-- FRAME.TOOLONG's operation, with the declared length it reports (R177). -/
def frameTooLongOp (declared : Byte) (s : State) : State :=
  pushFeed .frameTooLong (raiseError .frameTooLong declared 0xFF (clearReply (bufClear s)))

/-- The condition of FRAME.TOOLONG after an append (R177). -/
abbrev isTooLong (s : State) (declared : Byte) : Prop := s.len = 2 ∧ s.cfg.maxL.toNat < declared.toNat

/-- The condition of FRAME.READY after an append; the sum does not wrap (R178). -/
abbrev isReady (s : State) (declared : Byte) : Prop := 4 < s.len ∧ s.len = declared.toNat + 6

/-- The two tests after an append, on `buf[1]` (R172, R176). -/
def frameTests (s : State) : Result :=
  match bufRead s 1 with
  | none => .fault .bufferUnreadable
  | some declared =>
    if isTooLong s declared then .next (frameTooLongOp declared s)
    else if isReady s declared then frameReadyOp s
    else .next (pushFeed .accumulating s)

/-! ### The byte classes -/

/-- SYM.ACK (R173) after the `last_rx_ms` write (R172, log 13). -/
def symAckOp (now : Time) (s : State) : State :=
  pushFeed .idle (ackStep (clearReply (bufClear (noteRx now s))))

/-- SYM.START (R175): `buf[0] <- 0x68; len <- 1`. -/
def symStartOp (now : Time) (s : State) : State :=
  pushFeed .accumulating { noteRx now s with buf := Memory.write s.buf 0 startByte, len := 1 }

/-- SYM.IGNORE (R174). -/
def symIgnoreOp (now : Time) (s : State) : State := pushFeed .idle (noteRx now s)

/-- SYM.DATA (R176): append, then the two tests. -/
def symDataOp (b : Byte) (now : Time) (s : State) : Result :=
  andThen (bufAppend b (noteRx now s)) frameTests

/-- RXBYTE(b, now) (R172). -/
def rxByte (b : Byte) (now : Time) (s : State) : Result :=
  match symClass s.cfg.ackWindowLen s.len b with
  | .ack => .next (symAckOp now s)
  | .start => .next (symStartOp now s)
  | .ignore => .next (symIgnoreOp now s)
  | .data => symDataOp b now s

/-- Phase 2 of TICK: every byte of `rx`, in order (R141). -/
def drain (now : Time) : List Byte → State → Result
  | [], s => .next s
  | b :: rx, s => andThen (rxByte b now s) (drain now rx)

/-! ### The operations of the table -/

/-- RXBYTE (R172). -/
def execRxbyte (b : Byte) (now : Time) (s : State) : Result := rxByte b now s

/-- SYM.ACK (R173). -/
def execSymAck (now : Time) (s : State) : Result :=
  if symClass s.cfg.ackWindowLen s.len ackByte = .ack then .next (symAckOp now s) else .next s

/-- SYM.START (R175). -/
def execSymStart (now : Time) (s : State) : Result :=
  if symClass s.cfg.ackWindowLen s.len startByte = .start then .next (symStartOp now s) else .next s

/-- SYM.IGNORE (R174). -/
def execSymIgnore (b : Byte) (now : Time) (s : State) : Result :=
  if symClass s.cfg.ackWindowLen s.len b = .ignore then .next (symIgnoreOp now s) else .next s

/-- SYM.DATA (R176). -/
def execSymData (b : Byte) (now : Time) (s : State) : Result :=
  if symClass s.cfg.ackWindowLen s.len b = .data then symDataOp b now s else .next s

/-- FRAME.TOOLONG (R177). -/
def execFrameToolong (s : State) : Result :=
  if s.len < 2 then .next s
  else
    match bufRead s 1 with
    | none => .fault .bufferUnreadable
    | some declared =>
      if isTooLong s declared then .next (frameTooLongOp declared s) else .next s

/-- FRAME.READY (R178). -/
def execFrameReady (s : State) : Result :=
  if s.len < 2 then .next s
  else
    match bufRead s 1 with
    | none => .fault .bufferUnreadable
    | some declared => if isReady s declared then frameReadyOp s else .next s

/-- COMPLETE (R179). Run alone it takes the bytes held, 6 or more, whatever length byte 1 declares
(DESIGN CHOICE, log 8, log 9). -/
def execComplete (s : State) : Result := completeOp s

end Sys2Proof.Machine
end

