-- ==== Sys2Proof/Machine/Events.lean ====
section
/-! DEFINITION. The input events (40_events_and_tick.md R140 to R146). -/

namespace Sys2Proof.Machine

/-- Every element of R20's tuple at its reset value (R55, R142). The configuration is fixed (R411),
and the inputs still pending and the outputs already emitted are the environment's (log 5). -/
def resetRegisters (s : State) : State :=
  { s with
    buf := []
    len := 0
    initStep := .idle
    fcb := false
    replyPending := false
    sendTrigger := false
    lastRxMs := 0
    lastTxMs := 0
    silenceMs := 0
    errLast := 0 }

/-- RESET (R142). -/
def execReset (s : State) : Result := .next (resetRegisters s)

/-- POLL (R143). -/
def execPoll (s : State) : Result := .next (setTrigger s)

/-- TICK(now, rx) (R141): supervise, drain, send. -/
def execTick (now : Time) (rx : List Byte) (s : State) : Result :=
  andThen (drain now rx (supervise now s)) fun t => .next (sendIfDue now t)

/-- EV.RESERVED (R144): no state change and no output. -/
def execEvReserved (s : State) : Result := .next s

end Sys2Proof.Machine
end

