-- ==== Sys2Proof/Machine/Vif.lean ====
section
/-! DEFINITION. The VIF classes (43_record_decoder.md R243 to R251), each run on its own with the raw
value of its record: it returns tag and exponent and emits the REC its rule names (log 15). -/

namespace Sys2Proof.Machine

/-- The output of a record of a known class: tag and exponent are returned, REC(tag, raw, exp10) is
emitted (R244 to R251). -/
def reportQuantity (tag : Tag) (exp10 : Int) (raw : BitVec 32) (s : State) : Result :=
  .next (emit (.record tag raw exp10) (setResult (.quantity tag exp10) s))

/-- Runs a numeric class: the exponent from the first VIF byte (R107). -/
def runVifClass (row : VifRow) (v0 : Byte) (raw : BitVec 32) (s : State) : Result :=
  reportQuantity row.tag (exponent row v0) raw s

/-- VIF.ENERGY (R244). -/
def execVifEnergy (e : Bool) (n : BitVec 3) (raw : BitVec 32) (s : State) : Result :=
  runVifClass energyRow (vifByte3 e 0x0 n) raw s

/-- VIF.VOLUME (R245). -/
def execVifVolume (e : Bool) (n : BitVec 3) (raw : BitVec 32) (s : State) : Result :=
  runVifClass volumeRow (vifByte3 e 0x2 n) raw s

/-- VIF.POWER (R246). -/
def execVifPower (e : Bool) (n : BitVec 3) (raw : BitVec 32) (s : State) : Result :=
  runVifClass powerRow (vifByte3 e 0x5 n) raw s

/-- VIF.FLOW (R247). -/
def execVifFlow (e : Bool) (n : BitVec 3) (raw : BitVec 32) (s : State) : Result :=
  runVifClass flowRow (vifByte3 e 0x7 n) raw s

/-- VIF.TFLOW (R248). -/
def execVifTflow (e : Bool) (n : BitVec 2) (raw : BitVec 32) (s : State) : Result :=
  runVifClass tFlowRow (vifByte2 e 0x16 n) raw s

/-- VIF.TRETURN (R249). -/
def execVifTreturn (e : Bool) (n : BitVec 2) (raw : BitVec 32) (s : State) : Result :=
  runVifClass tReturnRow (vifByte2 e 0x17 n) raw s

/-- VIF.TDIFF (R250). -/
def execVifTdiff (e : Bool) (n : BitVec 2) (raw : BitVec 32) (s : State) : Result :=
  runVifClass tDiffRow (vifByte2 e 0x18 n) raw s

/-- VIF.STATUS (R251): tag 7, exponent 0, the value as it was read. -/
def execVifStatus (raw : BitVec 32) (s : State) : Result := reportQuantity .status 0 raw s

/-- VIF.OTHER (R243): abort. -/
def execVifOther (v0 : Byte) (s : State) : Result :=
  .next (setResult (.abort .unrecognizedQuantity v0) s)

end Sys2Proof.Machine
end

