-- ==== Sys2Proof/Machine/Dispatch.lean ====
section
/-! DEFINITION. The one dispatch from an operation of opcode_table.json to its meaning. -/

namespace Sys2Proof.Machine

def exec (i : Instr) (s : State) : Host.Outcome State Fault Refusal :=
  match i with
  | .reset => Sys2Proof.Machine.execReset s
  | .poll => Sys2Proof.Machine.execPoll s
  | .tick now rx => Sys2Proof.Machine.execTick now rx s
  | .evReserved => Sys2Proof.Machine.execEvReserved s
  | .rxbyte b now => Sys2Proof.Machine.execRxbyte b now s
  | .symAck now => Sys2Proof.Machine.execSymAck now s
  | .symStart now => Sys2Proof.Machine.execSymStart now s
  | .symIgnore b now => Sys2Proof.Machine.execSymIgnore b now s
  | .symData b now => Sys2Proof.Machine.execSymData b now s
  | .frameToolong => Sys2Proof.Machine.execFrameToolong s
  | .frameReady => Sys2Proof.Machine.execFrameReady s
  | .complete => Sys2Proof.Machine.execComplete s
  | .validate f => Sys2Proof.Machine.execValidate f s
  | .chkStart f => Sys2Proof.Machine.execChkStart f s
  | .chkLength f => Sys2Proof.Machine.execChkLength f s
  | .chkStop f => Sys2Proof.Machine.execChkStop f s
  | .chkSum f => Sys2Proof.Machine.execChkSum f s
  | .cs8 bytes => Sys2Proof.Machine.execCs8 bytes s
  | .classify payload wasInit => Sys2Proof.Machine.execClassify payload wasInit s
  | .decode payload => Sys2Proof.Machine.execDecode payload s
  | .readfield payload c => Sys2Proof.Machine.execReadfield payload c s
  | .record payload c => Sys2Proof.Machine.execRecord payload c s
  | .qclass v payload => Sys2Proof.Machine.execQclass v payload s
  | .difC0 e fff => Sys2Proof.Machine.execDifC0 e fff s
  | .difInt8 e fff c avail => Sys2Proof.Machine.execDifInt8 e fff c avail s
  | .difInt16 e fff c avail => Sys2Proof.Machine.execDifInt16 e fff c avail s
  | .difInt24 e fff c avail => Sys2Proof.Machine.execDifInt24 e fff c avail s
  | .difInt32 e fff c avail => Sys2Proof.Machine.execDifInt32 e fff c avail s
  | .difC5 e fff => Sys2Proof.Machine.execDifC5 e fff s
  | .difC6 e fff => Sys2Proof.Machine.execDifC6 e fff s
  | .difC7 e fff => Sys2Proof.Machine.execDifC7 e fff s
  | .difC8 e fff => Sys2Proof.Machine.execDifC8 e fff s
  | .difC9 e fff => Sys2Proof.Machine.execDifC9 e fff s
  | .difCA e fff => Sys2Proof.Machine.execDifCA e fff s
  | .difCB e fff => Sys2Proof.Machine.execDifCB e fff s
  | .difCC e fff => Sys2Proof.Machine.execDifCC e fff s
  | .difCD e fff => Sys2Proof.Machine.execDifCD e fff s
  | .difCE e fff => Sys2Proof.Machine.execDifCE e fff s
  | .difCF e fff => Sys2Proof.Machine.execDifCF e fff s
  | .vifEnergy e n raw => Sys2Proof.Machine.execVifEnergy e n raw s
  | .vifVolume e n raw => Sys2Proof.Machine.execVifVolume e n raw s
  | .vifPower e n raw => Sys2Proof.Machine.execVifPower e n raw s
  | .vifFlow e n raw => Sys2Proof.Machine.execVifFlow e n raw s
  | .vifTflow e n raw => Sys2Proof.Machine.execVifTflow e n raw s
  | .vifTreturn e n raw => Sys2Proof.Machine.execVifTreturn e n raw s
  | .vifTdiff e n raw => Sys2Proof.Machine.execVifTdiff e n raw s
  | .vifStatus raw => Sys2Proof.Machine.execVifStatus raw s
  | .vifOther v0 => Sys2Proof.Machine.execVifOther v0 s
  | .supervise now => Sys2Proof.Machine.execSupervise now s
  | .tmoLink now => Sys2Proof.Machine.execTmoLink now s
  | .tmoGap now => Sys2Proof.Machine.execTmoGap now s
  | .silence n => Sys2Proof.Machine.execSilence n s
  | .req1 => Sys2Proof.Machine.execReq1 s
  | .req2 => Sys2Proof.Machine.execReq2 s
  | .req3 => Sys2Proof.Machine.execReq3 s
  | .req4 => Sys2Proof.Machine.execReq4 s
  | .req5 => Sys2Proof.Machine.execReq5 s
  | .pollframe fcb => Sys2Proof.Machine.execPollframe fcb s
  | .pollbuild => Sys2Proof.Machine.execPollbuild s
  | .send now => Sys2Proof.Machine.execSend now s
  | .tx f => Sys2Proof.Machine.execTx f s
  | .raise code info mask => Sys2Proof.Machine.execRaise code info mask s

end Sys2Proof.Machine
end

