-- ==== Sys2Proof/Machine/Step.lean ====
section
/-! DEFINITION. One step of the machine: take the next pending input, read the operation it names,
run it. With no input pending the block does nothing and holds its state (60_exceptions.md R377). -/

namespace Sys2Proof.Machine

/-- One step (R140). -/
def step (s : State) : Host.Outcome State Fault Refusal :=
  match pendingInput s with
  | none => .next s
  | some x =>
    match inputInstr s x with
    | .error why => .refused (.undecodable why)
    | .ok i => exec i (beginInput s)

/-- The state with a table word presented as the next input (log 2, log 4). -/
def State.withFetchWord (s : State) (nbits w : Nat) : State :=
  { s with inputs := tableInput nbits w :: s.inputs }

end Sys2Proof.Machine
end

