-- ==== Sys2Proof/Safety.lean ====
section
/-! DEFINITION. What counts as a legal state and a safe step, and the notions the statements are
written with. -/

namespace Sys2Proof.Machine

/-! ### Legal states -/

/-- The invariant of the block (10_state.md R21 to R24, R39; 45_handshake_sequencer.md R314). -/
structure Inv (s : State) : Prop where
  /-- The frame buffer is in canonical form. -/
  canonical : Memory.wf s.buf = true
  /-- The buffer holds exactly `buf[0 .. len-1]` (R21). -/
  exact : ∀ i, (Memory.read s.buf i).isSome = true ↔ i < s.len
  /-- "whenever `len >= 1`, `buf[0] = 0x68`" (R23). -/
  startsWithMarker : 1 ≤ s.len → Memory.read s.buf 0 = some startByte
  /-- A frame with a known length is not too long and not complete between bytes (R24). -/
  incomplete : ∀ declared, 2 ≤ s.len → Memory.read s.buf 1 = some declared →
    declared.toNat ≤ s.cfg.maxL.toNat ∧ s.len < declared.toNat + 6
  /-- `acked = 1` implies `reply_pending = 0` during initialization (R314). -/
  quiet : acked s.initStep = true → s.replyPending = false
  /-- `err_last` is 0 or one of the ten codes (R39, R360). -/
  knownError : s.errLast.toNat ≤ 10

/-- The silence offsets that a run of events can leave: the reset value, or that of one of the six
frames of the ROM (R38, R289). -/
def silenceValues : List (BitVec 10) := [0, 64, 68, 572, 105]

/-- A step that does not stop the machine. -/
abbrev stepsOn (s : State) : Prop := ∃ t, step s = .next t

/-- The next input is an event of R91: the one way the environment drives the block (R380). -/
abbrev eventPending (s : State) : Prop :=
  ∃ x rest i, s.inputs = x :: rest ∧ x.fmt = .ev ∧ inputInstr s x = .ok i

/-- The next step runs RESET. -/
abbrev resetPending (s : State) : Prop :=
  ∃ x rest, s.inputs = x :: rest ∧ inputInstr s x = .ok .reset

/-! ### Telegrams -/

/-- The output event of one decoded record. -/
def recordEvent (r : Tag × BitVec 32 × Int) : OutputEvent := .record r.1 r.2.1 r.2.2

/-- The tags seen in a list of records (R26). -/
def seenMask (rs : List (Tag × BitVec 32 × Int)) : Byte := rs.foldl (fun m r => m ||| tagBit r.1) 0

/-- Records `rs` stand back to back in the payload from offset `c` to offset `stop` (R100, R221). -/
def recordsBetween (table : List VifRow) (payload : List Byte) (stop : Nat) :
    Nat → List (Tag × BitVec 32 × Int) → Prop
  | c, [] => c = stop
  | c, r :: rs => c < payload.length ∧ ∃ next,
      recordAt table payload c = .record r.1 r.2.1 r.2.2 next ∧
      recordsBetween table payload stop next rs

/-- `bs` is one variable-length field (R101): every byte but the last has bit 7 set, the last has it
clear. -/
def isField (bs : List Byte) : Prop :=
  ∃ start last, bs = start ++ [last] ∧ (∀ b ∈ start, b.msb = true) ∧ last.msb = false

/-- The VIF field `vif` begins with the status marker FD 17 (R119). -/
abbrev hasStatusMarker (vif : List Byte) : Prop := vif[0]? = some 0xFD ∧ vif[1]? = some 0x17

/-- The sum of a byte sequence as a number (R205). -/
def byteSum (bs : List Byte) : Nat := (bs.map BitVec.toNat).sum

/-! ### Received bytes and output lists -/

/-- From `s`, RXBYTE on each byte of `rx` in order, at time `now`, leads to `t` (R141 phase 2). -/
def feedsAll (now : Time) : List Byte → State → State → Prop
  | [], s, t => t = s
  | b :: rx, s, t => ∃ u, exec (.rxbyte b now) s = .next u ∧ feedsAll now rx u t

/-- The last error that a list of output events reports. -/
def lastError : List OutputEvent → Option ErrorCode
  | [] => none
  | .err code _ :: es => some ((lastError es).getD code)
  | .tx _ :: es => lastError es
  | .record _ _ _ :: es => lastError es
  | .telegramDone _ :: es => lastError es
  | .initReply :: es => lastError es
  | .noData _ :: es => lastError es

/-- `err_last` after a list of output events, from its value before (R39). -/
def recordedError (before : BitVec 4) (es : List OutputEvent) : BitVec 4 :=
  match lastError es with
  | none => before
  | some code => BitVec.ofNat 4 (errorNumber code)

/-- Every ERR is followed at once by a NODATA, and no NODATA stands alone (R54, R366). -/
def errThenNoData : List OutputEvent → Bool
  | [] => true
  | .err _ _ :: .noData _ :: es => errThenNoData es
  | .err _ _ :: _ => false
  | .noData _ :: _ => false
  | .tx _ :: es => errThenNoData es
  | .record _ _ _ :: es => errThenNoData es
  | .telegramDone _ :: es => errThenNoData es
  | .initReply :: es => errThenNoData es

/-- How many frames a list of output events transmits. -/
def txCount (es : List OutputEvent) : Nat :=
  es.countP fun e => match e with
    | .tx _ => true
    | .record _ _ _ | .telegramDone _ | .initReply | .err _ _ | .noData _ => false

end Sys2Proof.Machine
end

