-- ==== Sys2Proof/Certificates/Slice0/Obligations.lean ====
section
/-! DEFINITION. The statements for the provers, listed in OBLIGATIONS.json. -/

open Sys2Proof Sys2Proof.Machine

/-! ### The step, decoding and encoding -/

/-- A step runs the operation that the next input decodes to, on the state with that input taken and
with the outputs and results of the input before cleared (R140; log 2, log 12). -/
def Obligations.StepRunsDecodedInput : Prop :=
  ∀ (s : State) (x : Input) (rest : List Input) (i : Instr),
    s.inputs = x :: rest → decodeInput s.cfg.ackWindowLen s.len x = .ok i →
    step s = exec i { s with inputs := rest, out := [], feeds := [], res := .none }

/-- With no input the state is held (R377; log 2); an input that decodes to nothing is refused by the
decoder's name for it (log 3). -/
def Obligations.StepWithoutOperation : Prop :=
  (∀ s : State, s.inputs = [] → step s = .next s) ∧
  ∀ (s : State) (x : Input) (rest : List Input) (why : Reject),
    s.inputs = x :: rest → decodeInput s.cfg.ackWindowLen s.len x = .error why →
    step s = .refused (.undecodable why)

/-- Decoding the encoding of a well-formed operation gives it back; for the four SYM rows at a length
at which the synchronizer puts their byte in their class (R92). The layout of operands and the micro
port are the model's (log 3). -/
def Obligations.DecodeEncodeAgree : Prop :=
  ∀ (i : Instr) (window len : Nat),
    wellFormed i = true → symSelected window len i → decodeInput window len (encode i) = .ok i

/-- Encoding what an input decodes to gives the input back: no bit of an input is dropped, and no two
inputs name the same operation. The layout of operands and the micro port are the model's (log 3). -/
def Obligations.EncodeDecodeAgree : Prop :=
  ∀ (x : Input) (window len : Nat) (i : Instr), decodeInput window len x = .ok i → encode i = x

/-- What the decoder answers is well formed, and a SYM row is answered only for a byte of its class.
The layout of operands and the micro port are the model's (log 3). -/
def Obligations.DecodedIsWellFormed : Prop :=
  ∀ (x : Input) (window len : Nat) (i : Instr),
    1 ≤ window → decodeInput window len x = .ok i → wellFormed i = true ∧ symSelected window len i

/-- Words written out from the spec's encodings decode to the operations they stand for (R91, R92,
R102, R103, R118, R119, R301). Operand bytes and table words are laid out as log 3, log 4 and log 17
say. -/
def Obligations.SpecWordsDecode : Prop :=
  decodeTableWord 8 0b00 = some .reset ∧
  decodeTableWord 8 0b01 = some .poll ∧
  decodeTableWord 8 0b10 = some (.tick 0 []) ∧
  decodeInput 4 3 ⟨.sym, [0b11100101, 0xE8, 0x03, 0, 0]⟩ = .ok (.symAck 1000) ∧
  decodeInput 4 4 ⟨.sym, [0b11100101, 0xE8, 0x03, 0, 0]⟩ = .ok (.symData 0xE5 1000) ∧
  decodeInput 4 0 ⟨.sym, [0b01101000, 0, 0, 0, 0]⟩ = .ok (.symStart 0) ∧
  decodeInput 4 0 ⟨.dif, [0b11010010, 2, 0x8D, 0x02]⟩ = .ok (.difInt16 true 0b101 2 [0x8D, 0x02]) ∧
  decodeInput 4 0 ⟨.vif, [0b01011010, 0x8D, 0x02, 0, 0]⟩ = .ok (.vifTflow false 2 653) ∧
  decodeTableWord 16 0xFD17 = some (.vifStatus 0) ∧
  decodeInput 4 0 ⟨.req, [0x68, 8, 8, 0x68, 0x53, 0xFE, 0x51, 0x0F, 0, 0, 4, 0x5C, 0x11, 0x16]⟩ =
    .ok .req1

/-! ### The state right after reset, and the invariant -/

/-- The reset values (R55), and no byte of the buffer can be read; the parameters of the reset state are
the values that R8 decides (log 18), with MAX_L = 255 by the model's choice (log 6). -/
def Obligations.ResetValues : Prop :=
  State.reset.len = 0 ∧ initCode State.reset.initStep = 0x00 ∧ State.reset.fcb = false ∧
  State.reset.replyPending = false ∧ State.reset.sendTrigger = false ∧ State.reset.lastRxMs = 0 ∧
  State.reset.lastTxMs = 0 ∧ State.reset.silenceMs = 0 ∧ State.reset.errLast = 0 ∧
  (∀ i, bufRead State.reset i = none) ∧
  State.reset.cfg.ackWindowLen = 4 ∧ State.reset.cfg.fcbMask = 0x20 ∧
  State.reset.cfg.dataSig = [(0, 0x08), (1, 0x72)] ∧ State.reset.cfg.recStart = 2 ∧
  State.reset.cfg.vifTable = standardVifTable ∧
  State.reset.cfg.statusBit = standardConfig.statusBit ∧
  State.reset.cfg.resendOnSteadyTimeout = false ∧ State.reset.cfg.maxL = 255

/-- The invariant holds right after reset. -/
def Obligations.InvAtReset : Prop := Inv State.reset

/-- Every step keeps the invariant: the buffer's canonical form and that it holds exactly `len` bytes
(R21), that a candidate frame begins with 68 (R23) and is neither too long nor complete between
bytes (R24), that an acknowledged step waits for no reply (R314), and that `err_last` is a known
code (R39). -/
def Obligations.StepKeepsInv : Prop := ∀ s t : State, Inv s → step s = .next t → Inv t

/-- The step function is total on the input events: under the invariant no event of R91 stops the
machine (R140). -/
def Obligations.EventStepsNeverStop : Prop := ∀ s : State, Inv s → eventPending s → stepsOn s

/-- Only RESET leaves the steady state (R316). -/
def Obligations.SteadyStateIsPermanent : Prop :=
  ∀ s t : State, s.initStep = .steady → ¬ resetPending s → step s = .next t → t.initStep = .steady

/-- Without a RESET, one step leaves `init_step` as it is, sets its acknowledged bit, goes on to the
next step number with the bit clear, or goes from step 5 to the steady state (R27, R31, R320). -/
def Obligations.HandshakeFollowsTheChain : Prop :=
  ∀ s t : State, ¬ resetPending s → step s = .next t →
    t.initStep = s.initStep ∨
    initCode t.initStep = initCode s.initStep ||| 0x10 ∨
    (stepNumber t.initStep = stepNumber s.initStep + 1 ∧ stepNumber t.initStep ≤ 5 ∧
      acked t.initStep = false) ∨
    (stepNumber s.initStep = 5 ∧ t.initStep = .steady)

/-- Without a RESET, `err_last` after a step is the code of the last ERR that the step put out, and
unchanged if it put out none (R39). -/
def Obligations.LastErrorIsRecorded : Prop :=
  ∀ s t : State, s.inputs ≠ [] → ¬ resetPending s → step s = .next t →
    t.errLast = recordedError s.errLast t.out

/-- In the outputs of one input every ERR is followed at once by its NODATA (R54, R366). -/
def Obligations.EveryErrorIsAnswered : Prop :=
  ∀ s t : State, s.inputs ≠ [] → step s = .next t → errThenNoData t.out = true

/-- A step never changes the configuration (R415) and takes exactly the first pending input (log 2). -/
def Obligations.StepConsumesOneInput : Prop :=
  ∀ s t : State, step s = .next t → t.cfg = s.cfg ∧ t.inputs = s.inputs.tail

/-- Under the input events `silence_ms` is the reset value or the offset of a frame of the ROM (R38). -/
def Obligations.SilenceStaysInRange : Prop :=
  ∀ s t : State, eventPending s → s.silenceMs ∈ silenceValues → step s = .next t →
    t.silenceMs ∈ silenceValues

/-! ### The input events -/

/-- RESET (R142): every element of the state takes its reset value, no byte of the buffer can be read,
nothing is put out. -/
def Obligations.ResetResult : Prop :=
  ∀ s : State, ∃ t, exec .reset s = .next t ∧
    t.len = 0 ∧ initCode t.initStep = 0x00 ∧ t.fcb = false ∧ t.replyPending = false ∧
    t.sendTrigger = false ∧ t.lastRxMs = 0 ∧ t.lastTxMs = 0 ∧ t.silenceMs = 0 ∧ t.errLast = 0 ∧
    (∀ i, bufRead t i = none) ∧ t.out = s.out ∧ t.cfg = s.cfg

/-- POLL (R143): sets `send_trigger`, nothing else; the request goes out in phase 3 of the next TICK
that finds `reply_pending` clear. -/
def Obligations.PollResult : Prop :=
  ∀ s p : State, p = { s with sendTrigger := true } →
    exec .poll s = .next p ∧
    ∀ (now : Time) (rx : List Byte) (u v : State),
      exec (.supervise now) p = .next u → feedsAll now rx u v →
      v.sendTrigger = true ∧
      (v.replyPending = false → exec (.tick now rx) p = exec (.send now) v) ∧
      (v.replyPending = true → exec (.tick now rx) p = .next v)

/-- EV.RESERVED (R91, R144): no state change and no output. -/
def Obligations.ReservedEventResult : Prop := ∀ s : State, exec .evReserved s = .next s

/-- TICK (R141) is SUPERVISE, then RXBYTE on each byte in order, then SEND exactly when the trigger is
set and no reply is pending. -/
def Obligations.TickRunsThreePhases : Prop :=
  ∀ (now : Time) (rx : List Byte) (s u v : State),
    exec (.supervise now) s = .next u → feedsAll now rx u v →
    exec (.tick now rx) s =
      if v.sendTrigger = true ∧ v.replyPending = false then exec (.send now) v else .next v

/-- Under the invariant TICK completes on any bytes: all of them get the tick's time, each has one
feed result, outputs are only added, and configuration, pending inputs and result stay. -/
def Obligations.TickCompletes : Prop :=
  ∀ (now : Time) (rx : List Byte) (s : State), Inv s →
    ∃ t, exec (.tick now rx) s = .next t ∧ Inv t ∧
      t.lastRxMs = (if rx = [] then s.lastRxMs else now) ∧
      t.feeds.length = s.feeds.length + rx.length ∧
      (∃ es, t.out = s.out ++ es) ∧ t.cfg = s.cfg ∧ t.inputs = s.inputs ∧ t.res = s.res

/-- A TICK transmits at most one frame; afterwards either it sent one, with the trigger consumed, a
reply expected and the time recorded, or no send was due (R141 (f), R145, R318). -/
def Obligations.TickSendsAtMostOnce : Prop :=
  ∀ (now : Time) (rx : List Byte) (s t : State), exec (.tick now rx) s = .next t →
    (txCount t.out = txCount s.out + 1 ∧ t.sendTrigger = false ∧ t.replyPending = true ∧
      t.lastTxMs = now) ∨
    (txCount t.out = txCount s.out ∧ ¬ (t.sendTrigger = true ∧ t.replyPending = false) ∧
      t.lastTxMs = s.lastTxMs ∧ t.fcb = s.fcb ∧ t.silenceMs = s.silenceMs)

/-- A send that the supervisor schedules, by the receive timeout or the initialization gap, is served
in the same TICK, whatever bytes the tick brings (R141 (d)). -/
def Obligations.ScheduledResendIsServed : Prop :=
  ∀ (now : Time) (rx : List Byte) (s : State), Inv s →
    ((s.replyPending = true ∨ s.len ≠ 0) ∧
        500 + s.silenceMs.toNat < min (now - s.lastRxMs).toNat (now - s.lastTxMs).toNat ∧
        (s.initStep ≠ .steady ∨ s.cfg.resendOnSteadyTimeout = true)) ∨
      (acked s.initStep = true ∧ 20 ≤ (now - s.lastRxMs).toNat) →
    ∃ t, exec (.tick now rx) s = .next t ∧ txCount t.out = txCount s.out + 1 ∧
      t.sendTrigger = false ∧ t.replyPending = true ∧ t.lastTxMs = now

/-! ### The synchronizer -/

/-- The four byte classes (R92), with the spec's window of 4. -/
def Obligations.SymClassesPartition : Prop :=
  ∀ (len : Nat) (b : Byte),
    (symClass 4 len b = .ack ↔ b = 0xE5 ∧ len < 4) ∧
    (symClass 4 len b = .start ↔ b = 0x68 ∧ len = 0) ∧
    (symClass 4 len b = .ignore ↔ len = 0 ∧ b ≠ 0x68 ∧ b ≠ 0xE5) ∧
    (symClass 4 len b = .data ↔ 1 ≤ len ∧ ¬ (b = 0xE5 ∧ len < 4))

/-- RXBYTE (R172) is the operation of the byte's class; under the invariant it completes, with the
tick's time and one result, and `len` afterwards as R171 gives it for the result. What RXBYTE may
write is R172's list, and of `init_step` bit 4 only. That the SYM rows take the time themselves is log
13. -/
def Obligations.RxByteResult : Prop :=
  (∀ (b : Byte) (now : Time) (s : State),
    exec (.rxbyte b now) s =
      match symClass s.cfg.ackWindowLen s.len b with
      | .ack => exec (.symAck now) s
      | .start => exec (.symStart now) s
      | .ignore => exec (.symIgnore b now) s
      | .data => exec (.symData b now) s) ∧
  ∀ (b : Byte) (now : Time) (s : State), Inv s →
    ∃ t r, exec (.rxbyte b now) s = .next t ∧ Inv t ∧ t.feeds = s.feeds ++ [r] ∧
      (r = .accumulating ↔ 1 ≤ t.len) ∧
      (r = .frameReady ∨ r = .frameTooLong → t.replyPending = false) ∧
      (t.initStep = s.initStep ∨
        (initCode s.initStep ≠ 0xFF ∧ initCode t.initStep = initCode s.initStep ||| 0x10)) ∧
      ∃ es, t = { s with buf := t.buf, len := t.len, initStep := t.initStep,
                         replyPending := t.replyPending, lastRxMs := now, errLast := t.errLast,
                         out := s.out ++ es, feeds := t.feeds }

/-- SYM.ACK (R173, with R182's window): the buffer is emptied, no reply is pending, and bit 4 of
`init_step` is set unless it is FF. That the row takes the time itself is log 13, that the bytes are
dropped log 7. -/
def Obligations.SymAckResult : Prop :=
  ∀ (now : Time) (s : State), s.len < s.cfg.ackWindowLen →
    exec (.symAck now) s =
      .next { s with buf := [], len := 0, replyPending := false, lastRxMs := now,
                     initStep := setAcked s.initStep, feeds := s.feeds ++ [.idle] } ∧
    initCode (setAcked s.initStep) =
      if initCode s.initStep = 0xFF then 0xFF else initCode s.initStep ||| 0x10

/-- SYM.START and SYM.IGNORE while hunting (R175, R174): a start marker is stored at index 0 and every
other index reads as before; another byte changes `last_rx_ms` alone. That the rows take the time
themselves is log 13. -/
def Obligations.SymStartIgnoreResult : Prop :=
  ∀ (now : Time) (s : State), s.len = 0 →
    (∃ t, exec (.symStart now) s = .next t ∧
      t = { s with buf := t.buf, len := 1, lastRxMs := now, feeds := s.feeds ++ [.accumulating] } ∧
      Memory.read t.buf 0 = some 0x68 ∧
      ∀ a, a ≠ 0 → Memory.read t.buf a = Memory.read s.buf a) ∧
    ∀ b : Byte, b ≠ 0x68 → b ≠ 0xE5 →
      exec (.symIgnore b now) s =
        .next { s with lastRxMs := now, feeds := s.feeds ++ [.idle] }

/-- SYM.DATA (R176): the byte is stored at index `len`, every other index reads as before, `len` goes
up by one; then FRAME.TOOLONG, FRAME.READY or neither, judged by the declared length `d` and the
new `len` (R172). That the row takes the time itself is log 13. -/
def Obligations.SymDataResult : Prop :=
  ∀ (b d : Byte) (now : Time) (s : State), Inv s → 1 ≤ s.len →
    ¬ (b = 0xE5 ∧ s.len < s.cfg.ackWindowLen) →
    (if s.len = 1 then some b else Memory.read s.buf 1) = some d →
    ∃ u : State,
      u = { s with buf := u.buf, len := s.len + 1, lastRxMs := now } ∧
      Memory.read u.buf s.len = some b ∧
      (∀ a, a ≠ s.len → Memory.read u.buf a = Memory.read s.buf a) ∧
      ((s.len + 1 = 2 ∧ s.cfg.maxL.toNat < d.toNat →
          exec (.symData b now) s = exec .frameToolong u) ∧
       (4 < s.len + 1 ∧ s.len + 1 = d.toNat + 6 → exec (.symData b now) s = exec .frameReady u) ∧
       (¬ (s.len + 1 = 2 ∧ s.cfg.maxL.toNat < d.toNat) →
          ¬ (4 < s.len + 1 ∧ s.len + 1 = d.toNat + 6) →
          exec (.symData b now) s = .next { u with feeds := s.feeds ++ [.accumulating] }))

/-- The model's choice of log 8: a SYM or FRAME row run where its condition in the table does not hold
leaves the state as it is. -/
def Obligations.ConditionalRowsDoNothing : Prop :=
  ∀ (b d : Byte) (now : Time) (s : State),
    (s.cfg.ackWindowLen ≤ s.len → exec (.symAck now) s = .next s) ∧
    (s.len ≠ 0 → exec (.symStart now) s = .next s) ∧
    (s.len ≠ 0 ∨ b = 0x68 ∨ (b = 0xE5 ∧ 0 < s.cfg.ackWindowLen) →
      exec (.symIgnore b now) s = .next s) ∧
    (s.len = 0 ∨ (b = 0xE5 ∧ s.len < s.cfg.ackWindowLen) → exec (.symData b now) s = .next s) ∧
    (s.len < 2 ∨ (Memory.read s.buf 1 = some d ∧ ¬ (s.len = 2 ∧ s.cfg.maxL.toNat < d.toNat)) →
      exec .frameToolong s = .next s) ∧
    (s.len < 2 ∨ (Memory.read s.buf 1 = some d ∧ ¬ (4 < s.len ∧ s.len = d.toNat + 6)) →
      exec .frameReady s = .next s)

/-- FRAME.TOOLONG (R177): the frame is discarded, no reply is pending, error 5 with the declared
length. That the bytes are dropped is log 7. -/
def Obligations.FrameTooLongResult : Prop :=
  ∀ (d : Byte) (s : State), s.len = 2 → Memory.read s.buf 1 = some d →
    s.cfg.maxL.toNat < d.toNat →
    exec .frameToolong s =
      .next { s with buf := [], len := 0, replyPending := false, errLast := 5,
                     out := s.out ++ [.err .frameTooLong d, .noData 0xFF],
                     feeds := s.feeds ++ [.frameTooLong] }

/-- COMPLETE on the candidate frame `f` (R179, R180): an invalid frame is discarded with its error; the
payload of a valid one is classified with the acknowledged bit set and no reply pending. That the
bytes are dropped is log 7. That COMPLETE run alone takes any held frame of 6 bytes or more, whatever
length byte 1 declares, is the model's choice (log 8, log 9). -/
def Obligations.CompleteResult : Prop :=
  ∀ (f : List Byte) (s : State), 6 ≤ f.length → f.length = s.len →
    (∀ i, i < s.len → Memory.read s.buf i = f[i]?) →
    (∀ code info, validateFrame f = .err code info →
      exec .complete s =
        .next { s with buf := [], len := 0, replyPending := false,
                       errLast := BitVec.ofNat 4 (errorNumber code),
                       out := s.out ++ [.err code info, .noData 0xFF] }) ∧
    (∀ p, validateFrame f = .ok p →
      ∃ u, exec (.classify p (initCode s.initStep != 0xFF))
          { s with replyPending := false, initStep := setAcked s.initStep } = .next u ∧
        exec .complete s = .next { u with buf := [], len := 0 })

/-- FRAME.READY (R178) runs COMPLETE and reports FrameReady. -/
def Obligations.FrameReadyResult : Prop :=
  ∀ (f : List Byte) (d : Byte) (s : State), f.length = s.len →
    (∀ i, i < s.len → Memory.read s.buf i = f[i]?) →
    f[1]? = some d → 4 < s.len → s.len = d.toNat + 6 →
    ∃ u, exec .complete s = .next u ∧
      exec .frameReady s = .next { u with feeds := s.feeds ++ [.frameReady] }

/-- The completion law (R181), for every legal ACK window: a frame is ready exactly at its byte
number L + 6. -/
def Obligations.CompletionLaw : Prop :=
  ∀ (now : Time) (s : State) (L : Byte) (rest : List Byte), s.len = 0 → s.cfg.legal →
    L.toNat ≤ s.cfg.maxL.toNat → L ≠ 0xE5 → rest.length = L.toNat + 4 →
    (∀ b ∈ rest.take 2, b ≠ 0xE5) →
    ∃ t, feedsAll now (0x68 :: L :: rest) s t ∧ t.len = 0 ∧
      t.feeds = s.feeds ++ List.replicate (L.toNat + 5) .accumulating ++ [.frameReady]

/-- Receiving the long frame of a payload while hunting does what classifying that payload does, with
the acknowledged bit set, no reply pending and the buffer empty again (R93, R172 to R180; log 7). -/
def Obligations.LongFrameIsDelivered : Prop :=
  ∀ (now : Time) (s : State) (p : List Byte), s.len = 0 → s.cfg.legal →
    p.length ≤ s.cfg.maxL.toNat → p.length ≠ 0xE5 →
    ∃ t u, feedsAll now (longFrame p) s t ∧
      exec (.classify p (initCode s.initStep != 0xFF))
        { s with lastRxMs := now, replyPending := false, initStep := setAcked s.initStep } =
          .next u ∧
      t = { u with buf := [], len := 0,
                   feeds := s.feeds ++ List.replicate (p.length + 5) .accumulating ++ [.frameReady] }

/-! ### The validator and the checksum -/

/-- On a frame cut at its declared length, VALIDATE answers the payload `p` exactly when the frame is
the long frame of `p` (R93, R200, R207). The answer stands in `res` (log 1). -/
def Obligations.ValidateAcceptsLongFrames : Prop :=
  ∀ (f p : List Byte) (s : State), 6 ≤ f.length → f.length = (f.getD 1 0).toNat + 6 →
    (exec (.validate f) s = .next { s with res := .payload p } ↔ f = longFrame p)

/-- VALIDATE and its four checks (R200 to R204): each check passes or fails with its own error and info
byte, the first that fails decides VALIDATE. The value returned stands in `res` (log 1). That they run on 6 bytes or more
whatever length byte 1 declares is the model's choice (log 9). -/
def Obligations.ValidatorResults : Prop :=
  ∀ (f : List Byte) (s : State), 6 ≤ f.length →
    ∀ (bad1 bad2 bad3 bad4 : Bool) (info1 sum : Byte),
      bad1 = (f.getD 0 0 != 0x68 || f.getD 3 0 != 0x68) →
      info1 = (if f.getD 0 0 = 0x68 then f.getD 3 0 else f.getD 0 0) →
      bad2 = (f.getD 1 0 != f.getD 2 0) →
      bad3 = (f.getD (f.length - 1) 0 != 0x16) →
      sum = BitVec.ofNat 8 (byteSum ((f.drop 4).take (f.length - 6))) →
      bad4 = (sum != f.getD (f.length - 2) 0) →
      exec (.chkStart f) s =
        .next { s with res := if bad1 then .failed .badStart info1 else .passed } ∧
      exec (.chkLength f) s =
        .next { s with res := if bad2 then .failed .badLength (f.getD 2 0) else .passed } ∧
      exec (.chkStop f) s =
        .next { s with res := if bad3 then .failed .badStop (f.getD (f.length - 1) 0) else .passed } ∧
      exec (.chkSum f) s =
        .next { s with res := if bad4 then .failed .badChecksum sum else .passed } ∧
      exec (.validate f) s =
        .next { s with res :=
          if bad1 then .failed .badStart info1
          else if bad2 then .failed .badLength (f.getD 2 0)
          else if bad3 then .failed .badStop (f.getD (f.length - 1) 0)
          else if bad4 then .failed .badChecksum sum
          else .payload ((f.drop 4).take (f.length - 6)) }

/-- Single-byte sensitivity (R208): changing one byte of the checksum range, or the checksum byte, of a
valid frame gives BAD_CHECKSUM; changing byte 1 alone gives BAD_LENGTH. -/
def Obligations.SingleByteFlipIsRejected : Prop :=
  ∀ f p : List Byte, 6 ≤ f.length → validateFrame f = .ok p →
    (∀ (i : Nat) (b : Byte), 4 ≤ i → i + 3 ≤ f.length → b ≠ f.getD i 0 →
      cs8 (payloadOf (f.set i b)) = cs8 p + (b - f.getD i 0) ∧
      validateFrame (f.set i b) = .err .badChecksum (cs8 p + (b - f.getD i 0))) ∧
    (∀ b : Byte, b ≠ f.getD (f.length - 2) 0 →
      validateFrame (f.set (f.length - 2) b) = .err .badChecksum (cs8 p)) ∧
    (∀ b : Byte, b ≠ f.getD 1 0 → validateFrame (f.set 1 b) = .err .badLength (f.getD 2 0))

/-- The model's stops (log 7, log 9): a check of fewer than 6 bytes, a COMPLETE on fewer than 6 bytes
or on a byte that is not held, and an append to a full buffer fault by name. -/
def Obligations.OutOfContractFaults : Prop :=
  (∀ (f : List Byte) (s : State), f.length < 6 →
    exec (.validate f) s = .fault .frameTooShort ∧ exec (.chkStart f) s = .fault .frameTooShort ∧
    exec (.chkLength f) s = .fault .frameTooShort ∧ exec (.chkStop f) s = .fault .frameTooShort ∧
    exec (.chkSum f) s = .fault .frameTooShort) ∧
  (∀ s : State, s.len < 6 → (∀ i, i < s.len → Memory.read s.buf i ≠ none) →
    exec .complete s = .fault .frameTooShort) ∧
  (∀ (i : Nat) (s : State), i < s.len → Memory.read s.buf i = none →
    exec .complete s = .fault .bufferUnreadable) ∧
  (∀ (b : Byte) (now : Time) (s : State), s.cfg.legal → s.cfg.maxL.toNat + 6 ≤ s.len →
    exec (.symData b now) s = .fault .bufferFull)

/-- The checksum (R205): the sum of the bytes modulo 256, whatever their order; 0 for no byte. -/
def Obligations.ChecksumIsTheSum : Prop :=
  cs8 [] = 0 ∧ ∀ bs : List Byte, (cs8 bs).toNat = byteSum bs % 256 ∧
    ∀ bs' : List Byte, bs.Perm bs' → cs8 bs' = cs8 bs

/-- CS8 (R205) returns the sum modulo 256 in `res` (log 1) and writes no state of the block. -/
def Obligations.Cs8Result : Prop :=
  ∀ (bs : List Byte) (s : State),
    exec (.cs8 bs) s = .next { s with res := .byte (BitVec.ofNat 8 (byteSum bs)) }

/-! ### The record decoder -/

/-- CLASSIFY (R220): a data telegram is decoded; another payload is INIT_REPLY during initialization
and error 10 with its first byte, or 0 when it has none, in the steady state. That CLASSIFY run alone
follows its operand `was_init`, also where that disagrees with `init_step`, is the model's choice (log
22). -/
def Obligations.ClassifyResult : Prop :=
  ∀ (p : List Byte) (s : State) (isData : Prop),
    isData = (s.cfg.recStart ≤ p.length ∧
      ∀ q ∈ s.cfg.dataSig, q.1 < p.length ∧ p[q.1]? = some q.2) →
    (isData → ∀ wasInit, exec (.classify p wasInit) s = exec (.decode p) s) ∧
    (¬ isData → exec (.classify p true) s = .next { s with out := s.out ++ [.initReply] }) ∧
    (¬ isData → exec (.classify p false) s =
      .next { s with errLast := 10,
                     out := s.out ++ [.err .unknownTelegramShape (p.headD 0), .noData 0xFF] })

/-- DECODE (R221, R231): it completes on every payload. It emits one REC for each of the records that
stand back to back from REC_START on, in order; at the end of the payload TELEGRAM_DONE with the
tags seen; at the first record that aborts its error, NODATA for the tags not seen, and no
TELEGRAM_DONE. Nothing but `err_last` and the outputs changes. Tag `t` of R54 is bit `t` of the masks
(R26). That DECODE run alone takes any payload,
a data telegram or not, is the model's choice (log 22). -/
def Obligations.DecodeOutcome : Prop :=
  (tagBit .energy = 0x01 ∧ tagBit .volume = 0x02 ∧ tagBit .power = 0x04 ∧ tagBit .flow = 0x08 ∧
    tagBit .tFlow = 0x10 ∧ tagBit .tReturn = 0x20 ∧ tagBit .tDiff = 0x40 ∧ tagBit .status = 0x80) ∧
  ∀ (p : List Byte) (s : State), ∃ rs stop,
    recordsBetween s.cfg.vifTable p stop s.cfg.recStart rs ∧
    ((p.length ≤ stop ∧
        exec (.decode p) s =
          .next { s with out := s.out ++ rs.map recordEvent ++ [.telegramDone (seenMask rs)] }) ∨
     (stop < p.length ∧ ∃ code info, recordAt s.cfg.vifTable p stop = .abort code info ∧
        exec (.decode p) s =
          .next { s with errLast := BitVec.ofNat 4 (errorNumber code),
                         out := s.out ++ rs.map recordEvent ++
                           [.err code info, .noData (0xFF &&& ~~~ seenMask rs)] }))

/-- READFIELD (R101, R222): a field is found with its first byte and its length; where every byte from
`c` on has bit 7 set, or there is none, it is Truncated. The answer stands in `res` (log 1). -/
def Obligations.ReadFieldResult : Prop :=
  (∀ (pre field post : List Byte) (b : Byte) (s : State), isField field → field[0]? = some b →
    exec (.readfield (pre ++ field ++ post) pre.length) s =
      .next { s with res := .field ⟨pre.length, b, field.length⟩ }) ∧
  ∀ (p : List Byte) (c : Nat) (s : State), (∀ b ∈ p.drop c, b.msb = true) →
    exec (.readfield p c) s = .next { s with res := .truncated }

/-- RECORD (R100, R230): a record of a DIF field, a VIF field and a value of the width its coding names
is decoded to tag, signed little-endian value, exponent and the offset after it. The answer stands in
`res` (log 1). That RECORD run alone takes an offset below REC_START too is the model's choice (log
22). -/
def Obligations.RecordResult : Prop :=
  ∀ (s : State) (pre dif vif val post : List Byte) (d0 v0 : Byte) (tag : Tag) (e : Int),
    isField dif → isField vif → dif[0]? = some d0 → vif[0]? = some v0 →
    (d0 &&& 0x0F).toNat = val.length → 1 ≤ val.length → val.length ≤ 4 →
    (hasStatusMarker vif → tag = .status ∧ e = 0) →
    (¬ hasStatusMarker vif → tableClass s.cfg.vifTable v0 = some (tag, e)) →
    ∃ raw, exec (.record (pre ++ dif ++ vif ++ val ++ post) pre.length) s =
        .next { s with
          res := .record tag raw e (pre.length + dif.length + vif.length + val.length) } ∧
      raw.toInt = if leNat val < 2 ^ (8 * val.length - 1) then (leNat val : Int)
        else (leNat val : Int) - 2 ^ (8 * val.length)

/-- RECORD's aborts in the order of their checks (R227, R230, R370): a DIF field, then a VIF field that
does not end, a coding that is not 1 to 4, too few value bytes, an unknown quantity. The answer
stands in `res` (log 1). That RECORD run alone takes any offset is the model's choice (log 22). -/
def Obligations.RecordAborts : Prop :=
  ∀ (s : State) (pre : List Byte),
    (∀ tail : List Byte, (∀ b ∈ tail, b.msb = true) →
      exec (.record (pre ++ tail) pre.length) s =
        .next { s with res := .abort .truncatedRecord (BitVec.ofNat 8 pre.length) }) ∧
    (∀ dif tail : List Byte, isField dif → (∀ b ∈ tail, b.msb = true) →
      exec (.record (pre ++ dif ++ tail) pre.length) s =
        .next { s with res := .abort .truncatedRecord (BitVec.ofNat 8 pre.length) }) ∧
    ∀ (dif vif post : List Byte) (d0 v0 : Byte), isField dif → isField vif →
      dif[0]? = some d0 → vif[0]? = some v0 →
      ((d0 &&& 0x0F).toNat < 1 ∨ 4 < (d0 &&& 0x0F).toNat →
        exec (.record (pre ++ dif ++ vif ++ post) pre.length) s =
          .next { s with res := .abort .unsupportedWidth d0 }) ∧
      (1 ≤ (d0 &&& 0x0F).toNat → (d0 &&& 0x0F).toNat ≤ 4 → post.length < (d0 &&& 0x0F).toNat →
        exec (.record (pre ++ dif ++ vif ++ post) pre.length) s =
          .next { s with res := .abort .truncatedRecord (BitVec.ofNat 8 pre.length) }) ∧
      (1 ≤ (d0 &&& 0x0F).toNat → (d0 &&& 0x0F).toNat ≤ 4 → (d0 &&& 0x0F).toNat ≤ post.length →
        ¬ hasStatusMarker vif → tableClass s.cfg.vifTable v0 = none →
        exec (.record (pre ++ dif ++ vif ++ post) pre.length) s =
          .next { s with res := .abort .unrecognizedQuantity v0 })

/-- QCLASS (R240): the status marker first, then the first row of VIF_TABLE that matches, else Other.
The answer stands in `res` (log 1). -/
def Obligations.QclassResult : Prop :=
  ∀ (v : Field) (p : List Byte) (s : State) (marker : Prop),
    marker = (v.first = 0xFD ∧ 2 ≤ v.length ∧ p[v.start + 1]? = some 0x17) →
    (marker → exec (.qclass v p) s = .next { s with res := .quantity .status 0 }) ∧
    (∀ (above below : List VifRow) (row : VifRow), ¬ marker →
      s.cfg.vifTable = above ++ row :: below →
      (∀ r ∈ above, v.first &&& 0x7F &&& r.mask ≠ r.pattern) →
      v.first &&& 0x7F &&& row.mask = row.pattern →
      exec (.qclass v p) s = .next { s with
        res := .quantity row.tag (((v.first &&& row.expMask).toNat : Int) - (row.base : Int)) }) ∧
    (¬ marker → (∀ r ∈ s.cfg.vifTable, v.first &&& 0x7F &&& r.mask ≠ r.pattern) →
      exec (.qclass v p) s = .next { s with res := .other })

/-- The seven classes of VIF_TABLE by their ranges, with their exponents (R118, R243 (b)). -/
def Obligations.VifTableRanges : Prop :=
  ∀ (v0 : Byte) (x : Nat), x = (v0 &&& 0x7F).toNat →
    tableClass standardVifTable v0 =
      if x ≤ 0x07 then some (.energy, (x : Int) - 3)
      else if 0x10 ≤ x ∧ x ≤ 0x17 then some (.volume, (x : Int) - 0x10 - 6)
      else if 0x28 ≤ x ∧ x ≤ 0x2F then some (.power, (x : Int) - 0x28 - 3)
      else if 0x38 ≤ x ∧ x ≤ 0x3F then some (.flow, (x : Int) - 0x38 - 6)
      else if 0x58 ≤ x ∧ x ≤ 0x5B then some (.tFlow, (x : Int) - 0x58 - 3)
      else if 0x5C ≤ x ∧ x ≤ 0x5F then some (.tReturn, (x : Int) - 0x5C - 3)
      else if 0x60 ≤ x ∧ x ≤ 0x63 then some (.tDiff, (x : Int) - 0x60 - 3)
      else none

/-- The twelve DIF codings without a value (R233): abort with the whole first DIF byte. The abort is
returned in `res` (log 15). -/
def Obligations.DifAbortResult : Prop :=
  ∀ (e : Bool) (fff : BitVec 3) (s : State) (aborts : BitVec 4 → Result),
    (∀ k, aborts k =
      .next { s with res := .abort .unsupportedWidth (BitVec.ofBool e ++ fff ++ k) }) →
    exec (.difC0 e fff) s = aborts 0x0 ∧ exec (.difC5 e fff) s = aborts 0x5 ∧
    exec (.difC6 e fff) s = aborts 0x6 ∧ exec (.difC7 e fff) s = aborts 0x7 ∧
    exec (.difC8 e fff) s = aborts 0x8 ∧ exec (.difC9 e fff) s = aborts 0x9 ∧
    exec (.difCA e fff) s = aborts 0xA ∧ exec (.difCB e fff) s = aborts 0xB ∧
    exec (.difCC e fff) s = aborts 0xC ∧ exec (.difCD e fff) s = aborts 0xD ∧
    exec (.difCE e fff) s = aborts 0xE ∧ exec (.difCF e fff) s = aborts 0xF

/-- The four integer codings (R234 to R237): 1 to 4 bytes, least significant first, signed by the last;
too few bytes abort with the record's start. The answer stands in `res` (log 15). -/
def Obligations.DifIntegerResult : Prop :=
  ∀ (e : Bool) (fff : BitVec 3) (c : Nat) (s : State),
    (∀ (b0 : Byte) (post : List Byte), ∃ raw : BitVec 32,
      exec (.difInt8 e fff c (b0 :: post)) s = .next { s with res := .value raw } ∧
      raw.toInt = if b0.toNat < 128 then (b0.toNat : Int) else (b0.toNat : Int) - 256) ∧
    (∀ (b0 b1 : Byte) (post : List Byte) (u : Nat), u = b0.toNat + 256 * b1.toNat →
      ∃ raw : BitVec 32,
        exec (.difInt16 e fff c (b0 :: b1 :: post)) s = .next { s with res := .value raw } ∧
        raw.toInt = if u < 32768 then (u : Int) else (u : Int) - 65536) ∧
    (∀ (b0 b1 b2 : Byte) (post : List Byte) (u : Nat),
      u = b0.toNat + 256 * b1.toNat + 65536 * b2.toNat →
      ∃ raw : BitVec 32,
        exec (.difInt24 e fff c (b0 :: b1 :: b2 :: post)) s = .next { s with res := .value raw } ∧
        raw.toInt = if u < 8388608 then (u : Int) else (u : Int) - 16777216) ∧
    (∀ (b0 b1 b2 b3 : Byte) (post : List Byte) (u : Nat),
      u = b0.toNat + 256 * b1.toNat + 65536 * b2.toNat + 16777216 * b3.toNat →
      ∃ raw : BitVec 32,
        exec (.difInt32 e fff c (b0 :: b1 :: b2 :: b3 :: post)) s =
          .next { s with res := .value raw } ∧
        raw.toInt = if u < 2147483648 then (u : Int) else (u : Int) - 4294967296) ∧
    ∀ (avail : List Byte) (t : State),
      t = { s with res := .abort .truncatedRecord (BitVec.ofNat 8 c) } →
      (avail.length < 1 → exec (.difInt8 e fff c avail) s = .next t) ∧
      (avail.length < 2 → exec (.difInt16 e fff c avail) s = .next t) ∧
      (avail.length < 3 → exec (.difInt24 e fff c avail) s = .next t) ∧
      (avail.length < 4 → exec (.difInt32 e fff c avail) s = .next t)

/-- The VIF classes (R243 to R251): tag and exponent, and the REC they give; VIF.OTHER aborts. Returned
values stand in `res` (log 15). -/
def Obligations.VifResult : Prop :=
  ∀ (e : Bool) (n : BitVec 3) (m : BitVec 2) (raw : BitVec 32) (v0 : Byte) (s : State)
    (reports : Tag → Int → Result),
    (∀ tag exp10, reports tag exp10 =
      .next { s with res := .quantity tag exp10, out := s.out ++ [.record tag raw exp10] }) →
    exec (.vifEnergy e n raw) s = reports .energy ((n.toNat : Int) - 3) ∧
    exec (.vifVolume e n raw) s = reports .volume ((n.toNat : Int) - 6) ∧
    exec (.vifPower e n raw) s = reports .power ((n.toNat : Int) - 3) ∧
    exec (.vifFlow e n raw) s = reports .flow ((n.toNat : Int) - 6) ∧
    exec (.vifTflow e m raw) s = reports .tFlow ((m.toNat : Int) - 3) ∧
    exec (.vifTreturn e m raw) s = reports .tReturn ((m.toNat : Int) - 3) ∧
    exec (.vifTdiff e m raw) s = reports .tDiff ((m.toNat : Int) - 3) ∧
    exec (.vifStatus raw) s = reports .status 0 ∧
    exec (.vifOther v0) s = .next { s with res := .abort .unrecognizedQuantity v0 }

/-- Status flags (R120, R121, R251): the flag byte of a value of 1 to 4 bytes is its first byte, and
the flags reported are those of its set bits, in ascending bit order. The flag of each bit is the
spec's decision (log 18). -/
def Obligations.StatusFlagsOfFirstByte : Prop :=
  (∀ (b : Byte) (bs : List Byte), bs.length ≤ 3 → flagByte (signedLe (b :: bs)) = b) ∧
  standardConfig.statusBit = [.sensor1CableBreak, .sensor2CableBreak, .sensor1ShortCircuit,
    .sensor2ShortCircuit, .flowMeasurementFault, .electronicsFault, .resetOccurred, .lowBattery] ∧
  (∀ flags : Byte, (statusFlags standardConfig.statusBit flags).Sublist standardConfig.statusBit) ∧
  ∀ (flags : Byte) (i : Nat) (f : StatusFlag), standardConfig.statusBit[i]? = some f →
    (f ∈ statusFlags standardConfig.statusBit flags ↔ flags.getLsbD i = true)

/-- The scale law (R253), for every value and every integer exponent. -/
def Obligations.ScaleLaw : Prop :=
  ∀ (raw : BitVec 32) (e : Int), scaledValue raw e / (10 : Rat) ^ e = (raw.toInt : Rat)

/-! ### The timing supervisor -/

/-- TMO.LINK, TMO.GAP and SUPERVISE (R281 to R285, R287): what each does when its condition holds,
that it does nothing when it does not, and that SUPERVISE runs the two in order. That the bytes are
dropped is log 7. -/
def Obligations.SuperviseResult : Prop :=
  ∀ (now : Time) (s : State) (elRx elTx : Nat),
    elRx = (now.toNat + 2 ^ 32 - s.lastRxMs.toNat) % 2 ^ 32 →
    elTx = (now.toNat + 2 ^ 32 - s.lastTxMs.toNat) % 2 ^ 32 →
    ((s.replyPending = true ∨ s.len ≠ 0) ∧ 500 + s.silenceMs.toNat < min elRx elTx →
      exec (.tmoLink now) s =
        .next { s with buf := [], len := 0, replyPending := false, errLast := 9,
                       sendTrigger := s.sendTrigger || initCode s.initStep != 0xFF ||
                         s.cfg.resendOnSteadyTimeout,
                       out := s.out ++ [.err .linkTimeout 0, .noData 0xFF] }) ∧
    (¬ ((s.replyPending = true ∨ s.len ≠ 0) ∧ 500 + s.silenceMs.toNat < min elRx elTx) →
      exec (.tmoLink now) s = .next s) ∧
    (initCode s.initStep ≠ 0xFF ∧ initCode s.initStep &&& 0x10 ≠ 0 ∧ 20 ≤ elRx →
      exec (.tmoGap now) s = .next { s with sendTrigger := true }) ∧
    (¬ (initCode s.initStep ≠ 0xFF ∧ initCode s.initStep &&& 0x10 ≠ 0 ∧ 20 ≤ elRx) →
      exec (.tmoGap now) s = .next s) ∧
    ∃ u v, exec (.tmoLink now) s = .next u ∧ exec (.tmoGap now) u = .next v ∧
      exec (.supervise now) s = .next v

/-- SILENCE (R290) for every number of bytes: the value of R290 where the 10 bits of `silence_ms` hold
it, which is up to 223 bytes (R20), and a free value beyond, as the model has it (DESIGN CHOICE, log
10). -/
def Obligations.SilenceResult : Prop :=
  ∀ (n : Nat) (s : State),
    (n ≤ 223 → ∃ ms : BitVec 10, ms.toNat = n * 11000 / 2400 ∧
      exec (.silence n) s = .next { s with silenceMs := ms }) ∧
    (224 ≤ n → exec (.silence n) s = .next { s with silenceMs := Config.wideSilence n })

/-! ### The handshake sequencer -/

/-- SEND (R310 to R316, R320), by the `init_step` it finds: the frame that goes out, the `init_step` it
leaves, and the silence offset of the frame. -/
def Obligations.SendResult : Prop :=
  ∀ (now : Time) (s : State) (sends : InitStep → List Byte → BitVec 10 → Bool → State),
    (∀ i f ms toggled, sends i f ms toggled =
      { s with sendTrigger := false, initStep := i, fcb := toggled, replyPending := true,
               lastTxMs := now, silenceMs := ms, out := s.out ++ [.tx f] }) →
    (s.initStep = .idle ∨ s.initStep = .idleAcked ∨ s.initStep = .step1 →
      exec (.send now) s = .next (sends .step1 req1Frame 64 s.fcb)) ∧
    (s.initStep = .step1Acked ∨ s.initStep = .step2 →
      exec (.send now) s = .next (sends .step2 req2Frame 68 s.fcb)) ∧
    (s.initStep = .step2Acked ∨ s.initStep = .step3 →
      exec (.send now) s = .next (sends .step3 req3Frame 64 s.fcb)) ∧
    (s.initStep = .step3Acked ∨ s.initStep = .step4 →
      exec (.send now) s = .next (sends .step4 req4Frame 572 s.fcb)) ∧
    (s.initStep = .step4Acked ∨ s.initStep = .step5 →
      exec (.send now) s = .next (sends .step5 req5Frame 68 s.fcb)) ∧
    (s.initStep = .step5Acked ∨ s.initStep = .steady →
      exec (.send now) s = .next (sends .steady (pollFrame s.cfg.fcbMask (!s.fcb)) 105 (!s.fcb)))

/-- The request frames, byte by byte (R301 to R306), the poll frame for any FCB_MASK and for the spec's.
They are left in `res` (log 14). -/
def Obligations.RequestFramesResult : Prop :=
  ∀ (s : State) (leaves : List Byte → Result),
    (∀ f, leaves f = .next { s with res := .frame f }) →
    exec .req1 s = leaves
      [0x68, 0x08, 0x08, 0x68, 0x53, 0xFE, 0x51, 0x0F, 0x00, 0x00, 0x04, 0x5C, 0x11, 0x16] ∧
    exec .req2 s = leaves
      [0x68, 0x09, 0x09, 0x68, 0x53, 0xFE, 0x51, 0x0F, 0x00, 0x00, 0x00, 0x59, 0x2D, 0x37, 0x16] ∧
    exec .req3 s = leaves
      [0x68, 0x08, 0x08, 0x68, 0x73, 0xFE, 0x51, 0x0F, 0x00, 0x00, 0x00, 0x5D, 0x2E, 0x16] ∧
    exec .req4 s = leaves
      ([0x68, 0x77, 0x77, 0x68, 0x53, 0xFE, 0x51, 0x0F, 0x00, 0x00, 0x06, 0x5C, 0x09, 0x02, 0x00,
        0x00, 0x8F, 0xAD, 0xCE, 0xE5, 0xC7] ++ List.replicate 102 0x00 ++ [0xD4, 0x16]) ∧
    exec .req5 s = leaves
      [0x68, 0x09, 0x09, 0x68, 0x53, 0xFE, 0x51, 0x0F, 0x00, 0x00, 0x00, 0x59, 0x0C, 0x16, 0x16] ∧
    (∀ (fcb : Bool) (b4 : Byte), b4 = (if fcb then 0x53 ||| s.cfg.fcbMask else 0x53) →
      exec (.pollframe fcb) s = leaves
        [0x68, 0x11, 0x11, 0x68, b4, 0xFE, 0x51, 0x0F, 0x00, 0x00, 0x01, 0x59, 0x02, 0x03, 0x04,
          0x06, 0x05, 0x07, 0x08, 0x09, 0x0B,
          BitVec.ofNat 8 (byteSum [b4, 0xFE, 0x51, 0x0F, 0x00, 0x00, 0x01, 0x59, 0x02, 0x03, 0x04,
            0x06, 0x05, 0x07, 0x08, 0x09, 0x0B]), 0x16]) ∧
    (s.cfg.fcbMask = 0x20 →
      exec (.pollframe false) s = leaves
        [0x68, 0x11, 0x11, 0x68, 0x53, 0xFE, 0x51, 0x0F, 0x00, 0x00, 0x01, 0x59, 0x02, 0x03, 0x04,
          0x06, 0x05, 0x07, 0x08, 0x09, 0x0B, 0x42, 0x16] ∧
      exec (.pollframe true) s = leaves
        [0x68, 0x11, 0x11, 0x68, 0x73, 0xFE, 0x51, 0x0F, 0x00, 0x00, 0x01, 0x59, 0x02, 0x03, 0x04,
          0x06, 0x05, 0x07, 0x08, 0x09, 0x0B, 0x62, 0x16])

/-- Every frame of the ROM, and every poll frame whatever FCB_MASK and the bit, is one that VALIDATE
accepts (R125, R206, R300). -/
def Obligations.RequestFramesAreValid : Prop :=
  (∀ f ∈ [req1Frame, req2Frame, req3Frame, req4Frame, req5Frame],
    validateFrame f = .ok ((f.drop 4).take (f.length - 6))) ∧
  ∀ (mask : Byte) (fcb : Bool), validateFrame (pollFrame mask fcb) =
    .ok [if fcb then 0x53 ||| mask else 0x53, 0xFE, 0x51, 0x0F, 0x00, 0x00, 0x01, 0x59, 0x02, 0x03,
      0x04, 0x06, 0x05, 0x07, 0x08, 0x09, 0x0B]

/-- POLLBUILD (R308): the bit is toggled, then the frame carries it in byte 4 and its checksum in
byte 21. The frame is left in `res` (log 14). -/
def Obligations.PollbuildResult : Prop :=
  ∀ (s : State) (b4 : Byte), b4 = (if s.fcb then 0x53 else 0x53 ||| s.cfg.fcbMask) →
    ∃ f, exec .pollbuild s = .next { s with fcb := !s.fcb, res := .frame f } ∧
      f = [0x68, 0x11, 0x11, 0x68, b4, 0xFE, 0x51, 0x0F, 0x00, 0x00, 0x01, 0x59, 0x02, 0x03, 0x04,
        0x06, 0x05, 0x07, 0x08, 0x09, 0x0B,
        BitVec.ofNat 8 (byteSum [b4, 0xFE, 0x51, 0x0F, 0x00, 0x00, 0x01, 0x59, 0x02, 0x03, 0x04,
          0x06, 0x05, 0x07, 0x08, 0x09, 0x0B]), 0x16]

/-- TX (R319): one output event, nothing else. -/
def Obligations.TxResult : Prop :=
  ∀ (f : List Byte) (s : State), exec (.tx f) s = .next { s with out := s.out ++ [.tx f] }

/-- RAISE (R366): `err_last`, then ERR, then NODATA, and nothing else; the ten codes are those of R360. -/
def Obligations.RaiseResult : Prop :=
  (errorNumber .badStart = 1 ∧ errorNumber .badLength = 2 ∧ errorNumber .badStop = 3 ∧
    errorNumber .badChecksum = 4 ∧ errorNumber .frameTooLong = 5 ∧
    errorNumber .unsupportedWidth = 6 ∧ errorNumber .unrecognizedQuantity = 7 ∧
    errorNumber .truncatedRecord = 8 ∧ errorNumber .linkTimeout = 9 ∧
    errorNumber .unknownTelegramShape = 10) ∧
  ∀ (code : ErrorCode) (info mask : Byte) (s : State),
    exec (.raise code info mask) s =
      .next { s with errLast := BitVec.ofNat 4 (errorNumber code),
                     out := s.out ++ [.err code info, .noData mask] }
end

