-- ==== Sys2Proof/Laws/State.lean ====
section
/-! SUPPORT. One lemma per field per update of the state, true by rfl. -/

namespace Sys2Proof.Machine

variable (s : State)

@[simp] theorem bufClear_cfg : (bufClear s).cfg = s.cfg := rfl
@[simp] theorem bufClear_buf : (bufClear s).buf = [] := rfl
@[simp] theorem bufClear_len : (bufClear s).len = 0 := rfl
@[simp] theorem bufClear_initStep : (bufClear s).initStep = s.initStep := rfl
@[simp] theorem bufClear_fcb : (bufClear s).fcb = s.fcb := rfl
@[simp] theorem bufClear_replyPending : (bufClear s).replyPending = s.replyPending := rfl
@[simp] theorem bufClear_sendTrigger : (bufClear s).sendTrigger = s.sendTrigger := rfl
@[simp] theorem bufClear_lastRxMs : (bufClear s).lastRxMs = s.lastRxMs := rfl
@[simp] theorem bufClear_lastTxMs : (bufClear s).lastTxMs = s.lastTxMs := rfl
@[simp] theorem bufClear_silenceMs : (bufClear s).silenceMs = s.silenceMs := rfl
@[simp] theorem bufClear_errLast : (bufClear s).errLast = s.errLast := rfl
@[simp] theorem bufClear_inputs : (bufClear s).inputs = s.inputs := rfl
@[simp] theorem bufClear_out : (bufClear s).out = s.out := rfl
@[simp] theorem bufClear_feeds : (bufClear s).feeds = s.feeds := rfl
@[simp] theorem bufClear_res : (bufClear s).res = s.res := rfl

@[simp] theorem emit_cfg (e : OutputEvent) : (emit e s).cfg = s.cfg := rfl
@[simp] theorem emit_buf (e : OutputEvent) : (emit e s).buf = s.buf := rfl
@[simp] theorem emit_len (e : OutputEvent) : (emit e s).len = s.len := rfl
@[simp] theorem emit_initStep (e : OutputEvent) : (emit e s).initStep = s.initStep := rfl
@[simp] theorem emit_fcb (e : OutputEvent) : (emit e s).fcb = s.fcb := rfl
@[simp] theorem emit_replyPending (e : OutputEvent) : (emit e s).replyPending = s.replyPending := rfl
@[simp] theorem emit_sendTrigger (e : OutputEvent) : (emit e s).sendTrigger = s.sendTrigger := rfl
@[simp] theorem emit_lastRxMs (e : OutputEvent) : (emit e s).lastRxMs = s.lastRxMs := rfl
@[simp] theorem emit_lastTxMs (e : OutputEvent) : (emit e s).lastTxMs = s.lastTxMs := rfl
@[simp] theorem emit_silenceMs (e : OutputEvent) : (emit e s).silenceMs = s.silenceMs := rfl
@[simp] theorem emit_errLast (e : OutputEvent) : (emit e s).errLast = s.errLast := rfl
@[simp] theorem emit_inputs (e : OutputEvent) : (emit e s).inputs = s.inputs := rfl
@[simp] theorem emit_out (e : OutputEvent) : (emit e s).out = s.out ++ [e] := rfl
@[simp] theorem emit_feeds (e : OutputEvent) : (emit e s).feeds = s.feeds := rfl
@[simp] theorem emit_res (e : OutputEvent) : (emit e s).res = s.res := rfl

@[simp] theorem pushFeed_cfg (r : FeedResult) : (pushFeed r s).cfg = s.cfg := rfl
@[simp] theorem pushFeed_buf (r : FeedResult) : (pushFeed r s).buf = s.buf := rfl
@[simp] theorem pushFeed_len (r : FeedResult) : (pushFeed r s).len = s.len := rfl
@[simp] theorem pushFeed_initStep (r : FeedResult) : (pushFeed r s).initStep = s.initStep := rfl
@[simp] theorem pushFeed_fcb (r : FeedResult) : (pushFeed r s).fcb = s.fcb := rfl
@[simp] theorem pushFeed_replyPending (r : FeedResult) : (pushFeed r s).replyPending = s.replyPending := rfl
@[simp] theorem pushFeed_sendTrigger (r : FeedResult) : (pushFeed r s).sendTrigger = s.sendTrigger := rfl
@[simp] theorem pushFeed_lastRxMs (r : FeedResult) : (pushFeed r s).lastRxMs = s.lastRxMs := rfl
@[simp] theorem pushFeed_lastTxMs (r : FeedResult) : (pushFeed r s).lastTxMs = s.lastTxMs := rfl
@[simp] theorem pushFeed_silenceMs (r : FeedResult) : (pushFeed r s).silenceMs = s.silenceMs := rfl
@[simp] theorem pushFeed_errLast (r : FeedResult) : (pushFeed r s).errLast = s.errLast := rfl
@[simp] theorem pushFeed_inputs (r : FeedResult) : (pushFeed r s).inputs = s.inputs := rfl
@[simp] theorem pushFeed_out (r : FeedResult) : (pushFeed r s).out = s.out := rfl
@[simp] theorem pushFeed_feeds (r : FeedResult) : (pushFeed r s).feeds = s.feeds ++ [r] := rfl
@[simp] theorem pushFeed_res (r : FeedResult) : (pushFeed r s).res = s.res := rfl

@[simp] theorem setResult_cfg (r : MicroResult) : (setResult r s).cfg = s.cfg := rfl
@[simp] theorem setResult_buf (r : MicroResult) : (setResult r s).buf = s.buf := rfl
@[simp] theorem setResult_len (r : MicroResult) : (setResult r s).len = s.len := rfl
@[simp] theorem setResult_initStep (r : MicroResult) : (setResult r s).initStep = s.initStep := rfl
@[simp] theorem setResult_fcb (r : MicroResult) : (setResult r s).fcb = s.fcb := rfl
@[simp] theorem setResult_replyPending (r : MicroResult) : (setResult r s).replyPending = s.replyPending := rfl
@[simp] theorem setResult_sendTrigger (r : MicroResult) : (setResult r s).sendTrigger = s.sendTrigger := rfl
@[simp] theorem setResult_lastRxMs (r : MicroResult) : (setResult r s).lastRxMs = s.lastRxMs := rfl
@[simp] theorem setResult_lastTxMs (r : MicroResult) : (setResult r s).lastTxMs = s.lastTxMs := rfl
@[simp] theorem setResult_silenceMs (r : MicroResult) : (setResult r s).silenceMs = s.silenceMs := rfl
@[simp] theorem setResult_errLast (r : MicroResult) : (setResult r s).errLast = s.errLast := rfl
@[simp] theorem setResult_inputs (r : MicroResult) : (setResult r s).inputs = s.inputs := rfl
@[simp] theorem setResult_out (r : MicroResult) : (setResult r s).out = s.out := rfl
@[simp] theorem setResult_feeds (r : MicroResult) : (setResult r s).feeds = s.feeds := rfl
@[simp] theorem setResult_res (r : MicroResult) : (setResult r s).res = r := rfl

@[simp] theorem noteRx_cfg (now : Time) : (noteRx now s).cfg = s.cfg := rfl
@[simp] theorem noteRx_buf (now : Time) : (noteRx now s).buf = s.buf := rfl
@[simp] theorem noteRx_len (now : Time) : (noteRx now s).len = s.len := rfl
@[simp] theorem noteRx_initStep (now : Time) : (noteRx now s).initStep = s.initStep := rfl
@[simp] theorem noteRx_fcb (now : Time) : (noteRx now s).fcb = s.fcb := rfl
@[simp] theorem noteRx_replyPending (now : Time) : (noteRx now s).replyPending = s.replyPending := rfl
@[simp] theorem noteRx_sendTrigger (now : Time) : (noteRx now s).sendTrigger = s.sendTrigger := rfl
@[simp] theorem noteRx_lastRxMs (now : Time) : (noteRx now s).lastRxMs = now := rfl
@[simp] theorem noteRx_lastTxMs (now : Time) : (noteRx now s).lastTxMs = s.lastTxMs := rfl
@[simp] theorem noteRx_silenceMs (now : Time) : (noteRx now s).silenceMs = s.silenceMs := rfl
@[simp] theorem noteRx_errLast (now : Time) : (noteRx now s).errLast = s.errLast := rfl
@[simp] theorem noteRx_inputs (now : Time) : (noteRx now s).inputs = s.inputs := rfl
@[simp] theorem noteRx_out (now : Time) : (noteRx now s).out = s.out := rfl
@[simp] theorem noteRx_feeds (now : Time) : (noteRx now s).feeds = s.feeds := rfl
@[simp] theorem noteRx_res (now : Time) : (noteRx now s).res = s.res := rfl

@[simp] theorem clearReply_cfg : (clearReply s).cfg = s.cfg := rfl
@[simp] theorem clearReply_buf : (clearReply s).buf = s.buf := rfl
@[simp] theorem clearReply_len : (clearReply s).len = s.len := rfl
@[simp] theorem clearReply_initStep : (clearReply s).initStep = s.initStep := rfl
@[simp] theorem clearReply_fcb : (clearReply s).fcb = s.fcb := rfl
@[simp] theorem clearReply_replyPending : (clearReply s).replyPending = false := rfl
@[simp] theorem clearReply_sendTrigger : (clearReply s).sendTrigger = s.sendTrigger := rfl
@[simp] theorem clearReply_lastRxMs : (clearReply s).lastRxMs = s.lastRxMs := rfl
@[simp] theorem clearReply_lastTxMs : (clearReply s).lastTxMs = s.lastTxMs := rfl
@[simp] theorem clearReply_silenceMs : (clearReply s).silenceMs = s.silenceMs := rfl
@[simp] theorem clearReply_errLast : (clearReply s).errLast = s.errLast := rfl
@[simp] theorem clearReply_inputs : (clearReply s).inputs = s.inputs := rfl
@[simp] theorem clearReply_out : (clearReply s).out = s.out := rfl
@[simp] theorem clearReply_feeds : (clearReply s).feeds = s.feeds := rfl
@[simp] theorem clearReply_res : (clearReply s).res = s.res := rfl

@[simp] theorem setTrigger_cfg : (setTrigger s).cfg = s.cfg := rfl
@[simp] theorem setTrigger_buf : (setTrigger s).buf = s.buf := rfl
@[simp] theorem setTrigger_len : (setTrigger s).len = s.len := rfl
@[simp] theorem setTrigger_initStep : (setTrigger s).initStep = s.initStep := rfl
@[simp] theorem setTrigger_fcb : (setTrigger s).fcb = s.fcb := rfl
@[simp] theorem setTrigger_replyPending : (setTrigger s).replyPending = s.replyPending := rfl
@[simp] theorem setTrigger_sendTrigger : (setTrigger s).sendTrigger = true := rfl
@[simp] theorem setTrigger_lastRxMs : (setTrigger s).lastRxMs = s.lastRxMs := rfl
@[simp] theorem setTrigger_lastTxMs : (setTrigger s).lastTxMs = s.lastTxMs := rfl
@[simp] theorem setTrigger_silenceMs : (setTrigger s).silenceMs = s.silenceMs := rfl
@[simp] theorem setTrigger_errLast : (setTrigger s).errLast = s.errLast := rfl
@[simp] theorem setTrigger_inputs : (setTrigger s).inputs = s.inputs := rfl
@[simp] theorem setTrigger_out : (setTrigger s).out = s.out := rfl
@[simp] theorem setTrigger_feeds : (setTrigger s).feeds = s.feeds := rfl
@[simp] theorem setTrigger_res : (setTrigger s).res = s.res := rfl

@[simp] theorem ackStep_cfg : (ackStep s).cfg = s.cfg := rfl
@[simp] theorem ackStep_buf : (ackStep s).buf = s.buf := rfl
@[simp] theorem ackStep_len : (ackStep s).len = s.len := rfl
@[simp] theorem ackStep_initStep : (ackStep s).initStep = setAcked s.initStep := rfl
@[simp] theorem ackStep_fcb : (ackStep s).fcb = s.fcb := rfl
@[simp] theorem ackStep_replyPending : (ackStep s).replyPending = s.replyPending := rfl
@[simp] theorem ackStep_sendTrigger : (ackStep s).sendTrigger = s.sendTrigger := rfl
@[simp] theorem ackStep_lastRxMs : (ackStep s).lastRxMs = s.lastRxMs := rfl
@[simp] theorem ackStep_lastTxMs : (ackStep s).lastTxMs = s.lastTxMs := rfl
@[simp] theorem ackStep_silenceMs : (ackStep s).silenceMs = s.silenceMs := rfl
@[simp] theorem ackStep_errLast : (ackStep s).errLast = s.errLast := rfl
@[simp] theorem ackStep_inputs : (ackStep s).inputs = s.inputs := rfl
@[simp] theorem ackStep_out : (ackStep s).out = s.out := rfl
@[simp] theorem ackStep_feeds : (ackStep s).feeds = s.feeds := rfl
@[simp] theorem ackStep_res : (ackStep s).res = s.res := rfl

@[simp] theorem raiseError_cfg (code : ErrorCode) (info mask : Byte) : (raiseError code info mask s).cfg = s.cfg := rfl
@[simp] theorem raiseError_buf (code : ErrorCode) (info mask : Byte) : (raiseError code info mask s).buf = s.buf := rfl
@[simp] theorem raiseError_len (code : ErrorCode) (info mask : Byte) : (raiseError code info mask s).len = s.len := rfl
@[simp] theorem raiseError_initStep (code : ErrorCode) (info mask : Byte) : (raiseError code info mask s).initStep = s.initStep := rfl
@[simp] theorem raiseError_fcb (code : ErrorCode) (info mask : Byte) : (raiseError code info mask s).fcb = s.fcb := rfl
@[simp] theorem raiseError_replyPending (code : ErrorCode) (info mask : Byte) : (raiseError code info mask s).replyPending = s.replyPending := rfl
@[simp] theorem raiseError_sendTrigger (code : ErrorCode) (info mask : Byte) : (raiseError code info mask s).sendTrigger = s.sendTrigger := rfl
@[simp] theorem raiseError_lastRxMs (code : ErrorCode) (info mask : Byte) : (raiseError code info mask s).lastRxMs = s.lastRxMs := rfl
@[simp] theorem raiseError_lastTxMs (code : ErrorCode) (info mask : Byte) : (raiseError code info mask s).lastTxMs = s.lastTxMs := rfl
@[simp] theorem raiseError_silenceMs (code : ErrorCode) (info mask : Byte) : (raiseError code info mask s).silenceMs = s.silenceMs := rfl
@[simp] theorem raiseError_errLast (code : ErrorCode) (info mask : Byte) : (raiseError code info mask s).errLast = BitVec.ofNat 4 (errorNumber code) := rfl
@[simp] theorem raiseError_inputs (code : ErrorCode) (info mask : Byte) : (raiseError code info mask s).inputs = s.inputs := rfl
@[simp] theorem raiseError_out (code : ErrorCode) (info mask : Byte) : (raiseError code info mask s).out = s.out ++ [.err code info] ++ [.noData mask] := rfl
@[simp] theorem raiseError_feeds (code : ErrorCode) (info mask : Byte) : (raiseError code info mask s).feeds = s.feeds := rfl
@[simp] theorem raiseError_res (code : ErrorCode) (info mask : Byte) : (raiseError code info mask s).res = s.res := rfl

@[simp] theorem toggleFcb_cfg : (toggleFcb s).cfg = s.cfg := rfl
@[simp] theorem toggleFcb_buf : (toggleFcb s).buf = s.buf := rfl
@[simp] theorem toggleFcb_len : (toggleFcb s).len = s.len := rfl
@[simp] theorem toggleFcb_initStep : (toggleFcb s).initStep = s.initStep := rfl
@[simp] theorem toggleFcb_fcb : (toggleFcb s).fcb = !s.fcb := rfl
@[simp] theorem toggleFcb_replyPending : (toggleFcb s).replyPending = s.replyPending := rfl
@[simp] theorem toggleFcb_sendTrigger : (toggleFcb s).sendTrigger = s.sendTrigger := rfl
@[simp] theorem toggleFcb_lastRxMs : (toggleFcb s).lastRxMs = s.lastRxMs := rfl
@[simp] theorem toggleFcb_lastTxMs : (toggleFcb s).lastTxMs = s.lastTxMs := rfl
@[simp] theorem toggleFcb_silenceMs : (toggleFcb s).silenceMs = s.silenceMs := rfl
@[simp] theorem toggleFcb_errLast : (toggleFcb s).errLast = s.errLast := rfl
@[simp] theorem toggleFcb_inputs : (toggleFcb s).inputs = s.inputs := rfl
@[simp] theorem toggleFcb_out : (toggleFcb s).out = s.out := rfl
@[simp] theorem toggleFcb_feeds : (toggleFcb s).feeds = s.feeds := rfl
@[simp] theorem toggleFcb_res : (toggleFcb s).res = s.res := rfl

@[simp] theorem silence_cfg (n : Nat) : (silence n s).cfg = s.cfg := rfl
@[simp] theorem silence_buf (n : Nat) : (silence n s).buf = s.buf := rfl
@[simp] theorem silence_len (n : Nat) : (silence n s).len = s.len := rfl
@[simp] theorem silence_initStep (n : Nat) : (silence n s).initStep = s.initStep := rfl
@[simp] theorem silence_fcb (n : Nat) : (silence n s).fcb = s.fcb := rfl
@[simp] theorem silence_replyPending (n : Nat) : (silence n s).replyPending = s.replyPending := rfl
@[simp] theorem silence_sendTrigger (n : Nat) : (silence n s).sendTrigger = s.sendTrigger := rfl
@[simp] theorem silence_lastRxMs (n : Nat) : (silence n s).lastRxMs = s.lastRxMs := rfl
@[simp] theorem silence_lastTxMs (n : Nat) : (silence n s).lastTxMs = s.lastTxMs := rfl
@[simp] theorem silence_silenceMs (n : Nat) : (silence n s).silenceMs = silenceRegister n := rfl
@[simp] theorem silence_errLast (n : Nat) : (silence n s).errLast = s.errLast := rfl
@[simp] theorem silence_inputs (n : Nat) : (silence n s).inputs = s.inputs := rfl
@[simp] theorem silence_out (n : Nat) : (silence n s).out = s.out := rfl
@[simp] theorem silence_feeds (n : Nat) : (silence n s).feeds = s.feeds := rfl
@[simp] theorem silence_res (n : Nat) : (silence n s).res = s.res := rfl

@[simp] theorem beginInput_cfg : (beginInput s).cfg = s.cfg := rfl
@[simp] theorem beginInput_buf : (beginInput s).buf = s.buf := rfl
@[simp] theorem beginInput_len : (beginInput s).len = s.len := rfl
@[simp] theorem beginInput_initStep : (beginInput s).initStep = s.initStep := rfl
@[simp] theorem beginInput_fcb : (beginInput s).fcb = s.fcb := rfl
@[simp] theorem beginInput_replyPending : (beginInput s).replyPending = s.replyPending := rfl
@[simp] theorem beginInput_sendTrigger : (beginInput s).sendTrigger = s.sendTrigger := rfl
@[simp] theorem beginInput_lastRxMs : (beginInput s).lastRxMs = s.lastRxMs := rfl
@[simp] theorem beginInput_lastTxMs : (beginInput s).lastTxMs = s.lastTxMs := rfl
@[simp] theorem beginInput_silenceMs : (beginInput s).silenceMs = s.silenceMs := rfl
@[simp] theorem beginInput_errLast : (beginInput s).errLast = s.errLast := rfl
@[simp] theorem beginInput_inputs : (beginInput s).inputs = s.inputs.tail := rfl
@[simp] theorem beginInput_out : (beginInput s).out = [] := rfl
@[simp] theorem beginInput_feeds : (beginInput s).feeds = [] := rfl
@[simp] theorem beginInput_res : (beginInput s).res = .none := rfl

@[simp] theorem resetRegisters_cfg : (resetRegisters s).cfg = s.cfg := rfl
@[simp] theorem resetRegisters_buf : (resetRegisters s).buf = [] := rfl
@[simp] theorem resetRegisters_len : (resetRegisters s).len = 0 := rfl
@[simp] theorem resetRegisters_initStep : (resetRegisters s).initStep = .idle := rfl
@[simp] theorem resetRegisters_fcb : (resetRegisters s).fcb = false := rfl
@[simp] theorem resetRegisters_replyPending : (resetRegisters s).replyPending = false := rfl
@[simp] theorem resetRegisters_sendTrigger : (resetRegisters s).sendTrigger = false := rfl
@[simp] theorem resetRegisters_lastRxMs : (resetRegisters s).lastRxMs = 0 := rfl
@[simp] theorem resetRegisters_lastTxMs : (resetRegisters s).lastTxMs = 0 := rfl
@[simp] theorem resetRegisters_silenceMs : (resetRegisters s).silenceMs = 0 := rfl
@[simp] theorem resetRegisters_errLast : (resetRegisters s).errLast = 0 := rfl
@[simp] theorem resetRegisters_inputs : (resetRegisters s).inputs = s.inputs := rfl
@[simp] theorem resetRegisters_out : (resetRegisters s).out = s.out := rfl
@[simp] theorem resetRegisters_feeds : (resetRegisters s).feeds = s.feeds := rfl
@[simp] theorem resetRegisters_res : (resetRegisters s).res = s.res := rfl

@[simp] theorem symAckOp_cfg (now : Time) : (symAckOp now s).cfg = s.cfg := rfl
@[simp] theorem symAckOp_buf (now : Time) : (symAckOp now s).buf = [] := rfl
@[simp] theorem symAckOp_len (now : Time) : (symAckOp now s).len = 0 := rfl
@[simp] theorem symAckOp_initStep (now : Time) : (symAckOp now s).initStep = setAcked s.initStep := rfl
@[simp] theorem symAckOp_fcb (now : Time) : (symAckOp now s).fcb = s.fcb := rfl
@[simp] theorem symAckOp_replyPending (now : Time) : (symAckOp now s).replyPending = false := rfl
@[simp] theorem symAckOp_sendTrigger (now : Time) : (symAckOp now s).sendTrigger = s.sendTrigger := rfl
@[simp] theorem symAckOp_lastRxMs (now : Time) : (symAckOp now s).lastRxMs = now := rfl
@[simp] theorem symAckOp_lastTxMs (now : Time) : (symAckOp now s).lastTxMs = s.lastTxMs := rfl
@[simp] theorem symAckOp_silenceMs (now : Time) : (symAckOp now s).silenceMs = s.silenceMs := rfl
@[simp] theorem symAckOp_errLast (now : Time) : (symAckOp now s).errLast = s.errLast := rfl
@[simp] theorem symAckOp_inputs (now : Time) : (symAckOp now s).inputs = s.inputs := rfl
@[simp] theorem symAckOp_out (now : Time) : (symAckOp now s).out = s.out := rfl
@[simp] theorem symAckOp_feeds (now : Time) : (symAckOp now s).feeds = s.feeds ++ [.idle] := rfl
@[simp] theorem symAckOp_res (now : Time) : (symAckOp now s).res = s.res := rfl

@[simp] theorem symStartOp_cfg (now : Time) : (symStartOp now s).cfg = s.cfg := rfl
@[simp] theorem symStartOp_buf (now : Time) : (symStartOp now s).buf = Memory.write s.buf 0 startByte := rfl
@[simp] theorem symStartOp_len (now : Time) : (symStartOp now s).len = 1 := rfl
@[simp] theorem symStartOp_initStep (now : Time) : (symStartOp now s).initStep = s.initStep := rfl
@[simp] theorem symStartOp_fcb (now : Time) : (symStartOp now s).fcb = s.fcb := rfl
@[simp] theorem symStartOp_replyPending (now : Time) : (symStartOp now s).replyPending = s.replyPending := rfl
@[simp] theorem symStartOp_sendTrigger (now : Time) : (symStartOp now s).sendTrigger = s.sendTrigger := rfl
@[simp] theorem symStartOp_lastRxMs (now : Time) : (symStartOp now s).lastRxMs = now := rfl
@[simp] theorem symStartOp_lastTxMs (now : Time) : (symStartOp now s).lastTxMs = s.lastTxMs := rfl
@[simp] theorem symStartOp_silenceMs (now : Time) : (symStartOp now s).silenceMs = s.silenceMs := rfl
@[simp] theorem symStartOp_errLast (now : Time) : (symStartOp now s).errLast = s.errLast := rfl
@[simp] theorem symStartOp_inputs (now : Time) : (symStartOp now s).inputs = s.inputs := rfl
@[simp] theorem symStartOp_out (now : Time) : (symStartOp now s).out = s.out := rfl
@[simp] theorem symStartOp_feeds (now : Time) : (symStartOp now s).feeds = s.feeds ++ [.accumulating] := rfl
@[simp] theorem symStartOp_res (now : Time) : (symStartOp now s).res = s.res := rfl

@[simp] theorem symIgnoreOp_cfg (now : Time) : (symIgnoreOp now s).cfg = s.cfg := rfl
@[simp] theorem symIgnoreOp_buf (now : Time) : (symIgnoreOp now s).buf = s.buf := rfl
@[simp] theorem symIgnoreOp_len (now : Time) : (symIgnoreOp now s).len = s.len := rfl
@[simp] theorem symIgnoreOp_initStep (now : Time) : (symIgnoreOp now s).initStep = s.initStep := rfl
@[simp] theorem symIgnoreOp_fcb (now : Time) : (symIgnoreOp now s).fcb = s.fcb := rfl
@[simp] theorem symIgnoreOp_replyPending (now : Time) : (symIgnoreOp now s).replyPending = s.replyPending := rfl
@[simp] theorem symIgnoreOp_sendTrigger (now : Time) : (symIgnoreOp now s).sendTrigger = s.sendTrigger := rfl
@[simp] theorem symIgnoreOp_lastRxMs (now : Time) : (symIgnoreOp now s).lastRxMs = now := rfl
@[simp] theorem symIgnoreOp_lastTxMs (now : Time) : (symIgnoreOp now s).lastTxMs = s.lastTxMs := rfl
@[simp] theorem symIgnoreOp_silenceMs (now : Time) : (symIgnoreOp now s).silenceMs = s.silenceMs := rfl
@[simp] theorem symIgnoreOp_errLast (now : Time) : (symIgnoreOp now s).errLast = s.errLast := rfl
@[simp] theorem symIgnoreOp_inputs (now : Time) : (symIgnoreOp now s).inputs = s.inputs := rfl
@[simp] theorem symIgnoreOp_out (now : Time) : (symIgnoreOp now s).out = s.out := rfl
@[simp] theorem symIgnoreOp_feeds (now : Time) : (symIgnoreOp now s).feeds = s.feeds ++ [.idle] := rfl
@[simp] theorem symIgnoreOp_res (now : Time) : (symIgnoreOp now s).res = s.res := rfl

@[simp] theorem frameTooLongOp_cfg (declared : Byte) : (frameTooLongOp declared s).cfg = s.cfg := rfl
@[simp] theorem frameTooLongOp_buf (declared : Byte) : (frameTooLongOp declared s).buf = [] := rfl
@[simp] theorem frameTooLongOp_len (declared : Byte) : (frameTooLongOp declared s).len = 0 := rfl
@[simp] theorem frameTooLongOp_initStep (declared : Byte) : (frameTooLongOp declared s).initStep = s.initStep := rfl
@[simp] theorem frameTooLongOp_fcb (declared : Byte) : (frameTooLongOp declared s).fcb = s.fcb := rfl
@[simp] theorem frameTooLongOp_replyPending (declared : Byte) : (frameTooLongOp declared s).replyPending = false := rfl
@[simp] theorem frameTooLongOp_sendTrigger (declared : Byte) : (frameTooLongOp declared s).sendTrigger = s.sendTrigger := rfl
@[simp] theorem frameTooLongOp_lastRxMs (declared : Byte) : (frameTooLongOp declared s).lastRxMs = s.lastRxMs := rfl
@[simp] theorem frameTooLongOp_lastTxMs (declared : Byte) : (frameTooLongOp declared s).lastTxMs = s.lastTxMs := rfl
@[simp] theorem frameTooLongOp_silenceMs (declared : Byte) : (frameTooLongOp declared s).silenceMs = s.silenceMs := rfl
@[simp] theorem frameTooLongOp_errLast (declared : Byte) : (frameTooLongOp declared s).errLast = BitVec.ofNat 4 (errorNumber .frameTooLong) := rfl
@[simp] theorem frameTooLongOp_inputs (declared : Byte) : (frameTooLongOp declared s).inputs = s.inputs := rfl
@[simp] theorem frameTooLongOp_out (declared : Byte) : (frameTooLongOp declared s).out = s.out ++ [.err .frameTooLong declared] ++ [.noData 0xFF] := rfl
@[simp] theorem frameTooLongOp_feeds (declared : Byte) : (frameTooLongOp declared s).feeds = s.feeds ++ [.frameTooLong] := rfl
@[simp] theorem frameTooLongOp_res (declared : Byte) : (frameTooLongOp declared s).res = s.res := rfl

end Sys2Proof.Machine
end

