-- ==== Sys2Proof/Laws/Ops.lean ====
section
/-! SUPPORT. What each shared operation can do, said once: if it answers a next state, then one of the
cases its lemma lists holds. -/

namespace Sys2Proof.Machine

/-- A sequence answers a next state exactly when both parts do. -/
theorem andThen_next {r : Result} {k : State → Result} {t : State} :
    andThen r k = .next t ↔ ∃ s, r = .next s ∧ k s = .next t := by
  cases r <;> simp [andThen]

@[simp] theorem andThen_of_next (s : State) (k : State → Result) : andThen (.next s) k = k s := rfl

/-- An append stores one byte at `len` and moves `len` on, below the capacity only. -/
theorem bufAppend_next {b : Byte} {s t : State} (h : bufAppend b s = .next t) :
    s.len < bufCap s.cfg ∧
      t = { s with buf := Memory.write s.buf s.len b, len := s.len + 1 } := by
  unfold bufAppend at h
  split at h
  · rename_i hlt
    cases h
    exact ⟨hlt, rfl⟩
  · cases h

/-- COMPLETE answers a next state only for a candidate frame of at least 6 readable bytes. -/
theorem completeOp_next {s t : State} (h : completeOp s = .next t) :
    ∃ f, candidate s = some f ∧ 6 ≤ f.length ∧ t = completeFrame f s := by
  unfold completeOp at h
  split at h
  · cases h
  · rename_i f hf
    split at h
    · cases h
    · cases h
      exact ⟨f, hf, by omega, rfl⟩

/-- FRAME.READY completes the frame and reports it. -/
theorem frameReadyOp_next {s t : State} (h : frameReadyOp s = .next t) :
    ∃ f, candidate s = some f ∧ 6 ≤ f.length ∧ t = pushFeed .frameReady (completeFrame f s) := by
  obtain ⟨u, hu, ht⟩ := andThen_next.mp h
  obtain ⟨f, hf, h6, rfl⟩ := completeOp_next hu
  cases ht
  exact ⟨f, hf, h6, rfl⟩

/-- What the tests after an append can do. -/
theorem frameTests_next {s t : State} (h : frameTests s = .next t) :
    ∃ declared, bufRead s 1 = some declared ∧
      ((isTooLong s declared ∧ t = frameTooLongOp declared s) ∨
       (isReady s declared ∧ ∃ f, candidate s = some f ∧ 6 ≤ f.length ∧
          t = pushFeed .frameReady (completeFrame f s)) ∨
       (¬ isTooLong s declared ∧ ¬ isReady s declared ∧ t = pushFeed .accumulating s)) := by
  unfold frameTests at h
  split at h
  · cases h
  · rename_i declared hd
    refine ⟨declared, hd, ?_⟩
    split at h
    · rename_i h1
      cases h
      exact .inl ⟨h1, rfl⟩
    · rename_i h1
      split at h
      · rename_i h2
        exact .inr (.inl ⟨h2, frameReadyOp_next h⟩)
      · rename_i h2
        cases h
        exact .inr (.inr ⟨h1, h2, rfl⟩)

/-- SYM.DATA is an append followed by the tests. -/
theorem symDataOp_next {b : Byte} {now : Time} {s t : State} (h : symDataOp b now s = .next t) :
    s.len < bufCap s.cfg ∧
      frameTests { noteRx now s with buf := Memory.write s.buf s.len b, len := s.len + 1 } =
        .next t := by
  obtain ⟨u, hu, ht⟩ := andThen_next.mp h
  obtain ⟨hlt, rfl⟩ := bufAppend_next hu
  exact ⟨hlt, ht⟩

/-- What RXBYTE can do, by the class of the byte. -/
theorem rxByte_next {b : Byte} {now : Time} {s t : State} (h : rxByte b now s = .next t) :
    (symClass s.cfg.ackWindowLen s.len b = .ack ∧ t = symAckOp now s) ∨
    (symClass s.cfg.ackWindowLen s.len b = .start ∧ t = symStartOp now s) ∨
    (symClass s.cfg.ackWindowLen s.len b = .ignore ∧ t = symIgnoreOp now s) ∨
    (symClass s.cfg.ackWindowLen s.len b = .data ∧ symDataOp b now s = .next t) := by
  unfold rxByte at h
  split at h
  · rename_i hc
    cases h
    exact .inl ⟨hc, rfl⟩
  · rename_i hc
    cases h
    exact .inr (.inl ⟨hc, rfl⟩)
  · rename_i hc
    cases h
    exact .inr (.inr (.inl ⟨hc, rfl⟩))
  · rename_i hc
    exact .inr (.inr (.inr ⟨hc, h⟩))

/-- TMO.LINK either does nothing or times the link out. -/
theorem tmoLink_cases (now : Time) (s : State) :
    (¬ linkTimedOut now s ∧ tmoLink now s = s) ∨
    (linkTimedOut now s ∧ tmoLink now s = linkTimeout s) := by
  unfold tmoLink
  split
  · exact .inr ⟨‹_›, rfl⟩
  · exact .inl ⟨‹_›, rfl⟩

/-- TMO.GAP either does nothing or sets the trigger. -/
theorem tmoGap_cases (now : Time) (s : State) :
    (¬ gapPassed now s ∧ tmoGap now s = s) ∨ (gapPassed now s ∧ tmoGap now s = setTrigger s) := by
  unfold tmoGap
  split
  · exact .inr ⟨‹_›, rfl⟩
  · exact .inl ⟨‹_›, rfl⟩

/-- The receive timeout, field by field. -/
theorem linkTimeout_eq (s : State) :
    linkTimeout s =
      { s with buf := [], len := 0, replyPending := false, errLast := 9,
               sendTrigger := s.sendTrigger || inInit s.initStep || s.cfg.resendOnSteadyTimeout,
               out := s.out ++ [.err .linkTimeout 0, .noData 0xFF] } := by
  unfold linkTimeout
  rw [Bool.or_assoc]
  cases h : (inInit s.initStep || s.cfg.resendOnSteadyTimeout) <;>
    simp [raiseError, emit, clearReply, bufClear, setTrigger, errorNumber]

/-- What SILENCE leaves in its 10-bit register: the value of R290 for up to 223 bytes, a free value for
more (log 10). -/
theorem silenceRegister_cases (n : Nat) :
    (n ≤ 223 ∧ (silenceRegister n).toNat = n * 11000 / 2400) ∨
    (223 < n ∧ silenceRegister n = Config.wideSilence n) := by
  have hv : silenceFor n = n * 11000 / 2400 := by
    rw [silenceFor, bitsPerByte, baud, Nat.mul_assoc]
  by_cases h : n ≤ 223
  · left
    have hlt : silenceFor n < 1024 := by omega
    refine ⟨h, ?_⟩
    rw [silenceRegister, if_pos hlt, BitVec.toNat_ofNat, hv]
    omega
  · right
    refine ⟨by omega, ?_⟩
    rw [silenceRegister, if_neg (by omega)]

/-- SEND, field by field. -/
theorem sendOp_eq (now : Time) (s : State) :
    sendOp now s =
      { s with sendTrigger := false, initStep := afterSend s.initStep,
               fcb := if s.initStep = .step5Acked ∨ s.initStep = .steady then !s.fcb else s.fcb,
               replyPending := true, lastTxMs := now,
               silenceMs := silenceRegister (sendFrame s).length,
               out := s.out ++ [.tx (sendFrame s)] } := by
  unfold sendOp sendSelect
  cases h : s.initStep <;> simp [silence, emit, toggleFcb]

/-- Phase 3 of TICK either sends or does nothing. -/
theorem sendIfDue_cases (now : Time) (s : State) :
    (s.sendTrigger = true ∧ s.replyPending = false ∧ sendIfDue now s = sendOp now s) ∨
    (¬ (s.sendTrigger = true ∧ s.replyPending = false) ∧ sendIfDue now s = s) := by
  unfold sendIfDue
  split
  · rename_i h
    exact .inl ⟨h.1, h.2, rfl⟩
  · exact .inr ⟨‹_›, rfl⟩

/-- TICK is its three phases. -/
theorem execTick_next {now : Time} {rx : List Byte} {s t : State} (h : execTick now rx s = .next t) :
    ∃ u, drain now rx (supervise now s) = .next u ∧ t = sendIfDue now u := by
  obtain ⟨u, hu, ht⟩ := andThen_next.mp h
  cases ht
  exact ⟨u, hu, rfl⟩

/-- A step either finds no input and holds the state, or runs the operation the next input names. -/
theorem step_next {s t : State} (h : step s = .next t) :
    (s.inputs = [] ∧ t = s) ∨
    (∃ x rest i, s.inputs = x :: rest ∧ inputInstr s x = .ok i ∧ exec i (beginInput s) = .next t) := by
  unfold step pendingInput at h
  cases hs : s.inputs with
  | nil =>
    simp only [hs, List.head?_nil] at h
    cases h
    exact .inl ⟨rfl, rfl⟩
  | cons x rest =>
    simp only [hs, List.head?_cons] at h
    split at h
    · cases h
    · rename_i i hi
      exact .inr ⟨x, rest, i, rfl, hi, h⟩

end Sys2Proof.Machine
end

