-- ==== Sys2Proof/Laws/Effects.lean ====
section
/-! SUPPORT. What the composite operations can do to the state and to the outputs, said once: DECODE,
CLASSIFY, COMPLETE, RXBYTE, the drain of a tick, SUPERVISE. -/

namespace Sys2Proof.Machine

/-! ### Lists of output events -/

/-- The last error of two lists one after the other. -/
theorem lastError_append (a b : List OutputEvent) :
    lastError (a ++ b) = (lastError b).orElse (fun _ => lastError a) := by
  induction a with
  | nil => simp only [List.nil_append, lastError]; cases lastError b <;> rfl
  | cons x a ih =>
    cases x <;> simp only [List.cons_append, lastError, ih]
    cases lastError b <;> simp

/-- `err_last` after two lists of outputs one after the other. -/
theorem recordedError_append (e : BitVec 4) (a b : List OutputEvent) :
    recordedError (recordedError e a) b = recordedError e (a ++ b) := by
  unfold recordedError
  rw [lastError_append]
  cases lastError b <;> simp

/-- A recorded code stays at most 10 (R39, R360). -/
theorem recordedError_le (e : BitVec 4) (es : List OutputEvent) (h : e.toNat ≤ 10) :
    (recordedError e es).toNat ≤ 10 := by
  unfold recordedError
  split
  · exact h
  · rename_i c _
    cases c <;> decide

/-- Answered errors stay answered when lists are put one after the other. -/
theorem errThenNoData_append {a b : List OutputEvent} (ha : errThenNoData a = true)
    (hb : errThenNoData b = true) : errThenNoData (a ++ b) = true := by
  induction a using errThenNoData.induct <;> simp_all [errThenNoData]

/-- Transmissions add up. -/
theorem txCount_append (a b : List OutputEvent) : txCount (a ++ b) = txCount a + txCount b := by
  simp [txCount]

/-! ### The error entry sequence and the decoder -/

/-- The error entry sequence, as outputs and the error they record. -/
theorem raiseError_emits (c : ErrorCode) (i m : Byte) (s : State) :
    raiseError c i m s =
      { s with errLast := recordedError s.errLast [.err c i, .noData m],
               out := s.out ++ [.err c i, .noData m] } := by
  simp [raiseError, emit, recordedError, lastError]

/-- The decode loop adds outputs and records their error; nothing else. -/
theorem decodeLoop_emits (fuel : Nat) (p : List Byte) : ∀ (cur : Nat) (seen : Byte) (s : State),
    ∃ es, decodeLoop fuel p cur seen s =
        { s with errLast := recordedError s.errLast es, out := s.out ++ es } ∧
      errThenNoData es = true ∧ txCount es = 0 := by
  induction fuel with
  | zero => intro cur seen s; exact ⟨[.telegramDone seen], rfl, rfl, rfl⟩
  | succ fuel ih =>
    intro cur seen s
    simp only [decodeLoop]
    split
    · split
      · exact ⟨_, raiseError_emits _ _ _ _, rfl, rfl⟩
      · rename_i tag raw e next _
        obtain ⟨es, h, h1, h2⟩ := ih next (seen ||| tagBit tag) (emit (.record tag raw e) s)
        refine ⟨.record tag raw e :: es, ?_, by simpa [errThenNoData] using h1,
          by simpa [txCount] using h2⟩
        rw [h]; simp [emit, recordedError, lastError]
    · exact ⟨[.telegramDone seen], rfl, rfl, rfl⟩

/-- CLASSIFY adds outputs and records their error; nothing else. -/
theorem classifyPayload_emits (p : List Byte) (wasInit : Bool) (s : State) :
    ∃ es, classifyPayload p wasInit s =
        { s with errLast := recordedError s.errLast es, out := s.out ++ es } ∧
      errThenNoData es = true ∧ txCount es = 0 := by
  unfold classifyPayload
  split
  · exact decodeLoop_emits _ _ _ _ _
  · split
    · exact ⟨[.initReply], rfl, rfl, rfl⟩
    · exact ⟨_, raiseError_emits _ _ _ _, rfl, rfl⟩

/-- COMPLETE empties the buffer, clears `reply_pending`, and keeps or acknowledges the step; beside
that it adds outputs and records their error. -/
theorem completeFrame_emits (f : List Byte) (s : State) :
    ∃ i es, (i = s.initStep ∨ i = setAcked s.initStep) ∧
      completeFrame f s =
        { s with buf := [], len := 0, replyPending := false, initStep := i,
                 errLast := recordedError s.errLast es, out := s.out ++ es } ∧
      errThenNoData es = true ∧ txCount es = 0 := by
  unfold completeFrame
  split
  · exact ⟨s.initStep, _, .inl rfl, raiseError_emits _ _ _ _, rfl, rfl⟩
  · rename_i p _
    obtain ⟨es, h, h1, h2⟩ := classifyPayload_emits p (inInit s.initStep) (ackStep (clearReply s))
    exact ⟨setAcked s.initStep, es, .inr rfl, by rw [h]; simp [ackStep, clearReply, bufClear], h1,
      h2⟩

/-! ### Received bytes -/

/-- What RXBYTE can do when it answers a next state: what it may write, and how the buffer ends: empty;
untouched while hunting; with the start marker; or with one byte appended, the frame neither too
long nor complete. -/
theorem rxByte_shape {b : Byte} {now : Time} {s t : State} (h : rxByte b now s = .next t) :
    ∃ r es i,
      t = { s with buf := t.buf, len := t.len, initStep := i, replyPending := t.replyPending,
                   lastRxMs := now, errLast := recordedError s.errLast es, out := s.out ++ es,
                   feeds := s.feeds ++ [r] } ∧
      errThenNoData es = true ∧ txCount es = 0 ∧
      (i = s.initStep ∨ (i = setAcked s.initStep ∧ t.replyPending = false)) ∧
      (t.replyPending = false ∨ t.replyPending = s.replyPending) ∧
      ((t.buf = [] ∧ t.len = 0 ∧ r ≠ .accumulating ∧ t.replyPending = false) ∨
       (s.len = 0 ∧ t.len = 0 ∧ t.buf = s.buf ∧ r = .idle ∧ i = s.initStep) ∨
       (s.len = 0 ∧ t.buf = Memory.write s.buf 0 startByte ∧ t.len = 1 ∧ r = .accumulating ∧
         i = s.initStep) ∨
       (t.buf = Memory.write s.buf s.len b ∧ t.len = s.len + 1 ∧ s.len ≠ 0 ∧ r = .accumulating ∧
         i = s.initStep ∧
         ∃ d, Memory.read t.buf 1 = some d ∧ ¬ (t.len = 2 ∧ s.cfg.maxL.toNat < d.toNat) ∧
           ¬ (4 < t.len ∧ t.len = d.toNat + 6))) := by
  rcases rxByte_next h with ⟨hc, rfl⟩ | ⟨hc, rfl⟩ | ⟨hc, rfl⟩ | ⟨hc, h'⟩
  · exact ⟨.idle, [], setAcked s.initStep,
      by simp [symAckOp, pushFeed, ackStep, clearReply, bufClear, noteRx, recordedError, lastError],
      rfl, rfl, .inr ⟨rfl, rfl⟩, .inl rfl, .inl ⟨rfl, rfl, by simp, rfl⟩⟩
  · have : s.len = 0 := by unfold symClass at hc; split_ifs at hc; assumption
    exact ⟨.accumulating, [], s.initStep,
      by simp [symStartOp, pushFeed, noteRx, recordedError, lastError],
      rfl, rfl, .inl rfl, .inr rfl, .inr (.inr (.inl ⟨this, rfl, rfl, rfl, rfl⟩))⟩
  · have : s.len = 0 := by unfold symClass at hc; split_ifs at hc; assumption
    exact ⟨.idle, [], s.initStep,
      by simp [symIgnoreOp, pushFeed, noteRx, recordedError, lastError],
      rfl, rfl, .inl rfl, .inr rfl, .inr (.inl ⟨this, this, rfl, rfl, rfl⟩)⟩
  · have hl : s.len ≠ 0 := by unfold symClass at hc; split_ifs at hc; assumption
    obtain ⟨hlt, h''⟩ := symDataOp_next h'
    obtain ⟨d, hd, h1 | ⟨h1, f, hf, h6, ht⟩ | ⟨h1, h2, ht⟩⟩ := frameTests_next h''
    · obtain ⟨_, rfl⟩ := h1
      refine ⟨.frameTooLong, [.err .frameTooLong d, .noData 0xFF], s.initStep, ?_, rfl, rfl, .inl rfl,
        .inl rfl, .inl ⟨rfl, rfl, by simp, rfl⟩⟩
      rw [frameTooLongOp, raiseError_emits]; simp [pushFeed, clearReply, bufClear, noteRx]
    · obtain ⟨i, es, hi, he, h3, h4⟩ := completeFrame_emits f
        { noteRx now s with buf := Memory.write s.buf s.len b, len := s.len + 1 }
      rw [he] at ht
      subst ht
      refine ⟨.frameReady, es, i, rfl, h3, h4, ?_, .inl rfl, .inl ⟨rfl, rfl, by simp, rfl⟩⟩
      rcases hi with rfl | rfl
      · exact .inl rfl
      · exact .inr ⟨rfl, rfl⟩
    · subst ht
      refine ⟨.accumulating, [], s.initStep, by simp [pushFeed, noteRx, recordedError, lastError],
        rfl, rfl, .inl rfl, .inr rfl, .inr (.inr (.inr ⟨rfl, rfl, hl, rfl, rfl, d, ?_, h1, h2⟩))⟩
      rw [bufRead] at hd; split_ifs at hd; exact hd

/-- What the drain of a tick can do: one feed result a byte, the tick's time, added outputs. -/
theorem drain_shape {now : Time} {rx : List Byte} : ∀ {s t : State}, drain now rx s = .next t →
    ∃ rs es i,
      t = { s with buf := t.buf, len := t.len, initStep := i, replyPending := t.replyPending,
                   lastRxMs := if rx = [] then s.lastRxMs else now,
                   errLast := recordedError s.errLast es, out := s.out ++ es,
                   feeds := s.feeds ++ rs } ∧
      rs.length = rx.length ∧ errThenNoData es = true ∧ txCount es = 0 ∧
      (i = s.initStep ∨ i = setAcked s.initStep) ∧
      (t.replyPending = false ∨ t.replyPending = s.replyPending) := by
  induction rx with
  | nil =>
    intro s t h
    cases h
    exact ⟨[], [], s.initStep, by simp [recordedError, lastError], rfl, rfl, rfl, .inl rfl, .inr rfl⟩
  | cons b rx ih =>
    intro s t h
    obtain ⟨u, hu, ht⟩ := andThen_next.mp h
    obtain ⟨r, es, i, h1, h2, h3, h4, h5, _⟩ := rxByte_shape hu
    obtain ⟨rs, es', i', g1, g2, g3, g4, g5, g6⟩ := ih ht
    have hui : u.initStep = i := by rw [h1]
    refine ⟨r :: rs, es ++ es', i', ?_, by simp [g2], errThenNoData_append h2 g3,
      by rw [txCount_append, h3, g4], ?_, ?_⟩
    · have hf : (if rx = [] then u.lastRxMs else now) = now := by rw [h1]; simp
      rw [hf] at g1
      rw [← recordedError_append]
      have e1 : u.errLast = recordedError s.errLast es := by rw [h1]
      have e2 : u.out = s.out ++ es := by rw [h1]
      have e3 : u.feeds = s.feeds ++ [r] := by rw [h1]
      rw [e1, e2, e3] at g1
      have e4 : u.cfg = s.cfg := by rw [h1]
      have e5 : u.fcb = s.fcb := by rw [h1]
      have e6 : u.sendTrigger = s.sendTrigger := by rw [h1]
      have e7 : u.lastTxMs = s.lastTxMs := by rw [h1]
      have e8 : u.silenceMs = s.silenceMs := by rw [h1]
      have e9 : u.inputs = s.inputs := by rw [h1]
      have e10 : u.res = s.res := by rw [h1]
      rw [e4, e5, e6, e7, e8, e9, e10] at g1
      simpa using g1
    · rw [hui] at g5
      rcases h4 with rfl | ⟨rfl, _⟩
      · exact g5
      · rcases g5 with rfl | rfl
        · exact .inr rfl
        · right; cases s.initStep <;> rfl
    · rcases g6 with h | h
      · exact .inl h
      · rw [h]; exact h5

/-! ### The supervisor -/

/-- What SUPERVISE can do. -/
theorem supervise_shape (now : Time) (s : State) : ∃ tr es,
    supervise now s =
      { s with buf := (supervise now s).buf, len := (supervise now s).len,
               replyPending := (supervise now s).replyPending, sendTrigger := tr,
               errLast := recordedError s.errLast es, out := s.out ++ es } ∧
    errThenNoData es = true ∧ txCount es = 0 ∧
    ((supervise now s).replyPending = false ∨
      (supervise now s).replyPending = s.replyPending) := by
  unfold supervise
  rcases tmoLink_cases now s with ⟨_, h⟩ | ⟨_, h⟩ <;> rw [h]
  · rcases tmoGap_cases now s with ⟨_, h⟩ | ⟨_, h⟩ <;> rw [h]
    · exact ⟨s.sendTrigger, [], by simp [recordedError, lastError], rfl, rfl, .inr rfl⟩
    · exact ⟨true, [], by simp [recordedError, lastError, setTrigger], rfl, rfl, .inr rfl⟩
  · rcases tmoGap_cases now (linkTimeout s) with ⟨_, h⟩ | ⟨_, h⟩ <;> rw [h, linkTimeout_eq]
    · exact ⟨_, [.err .linkTimeout 0, .noData 0xFF], rfl, rfl, rfl, .inl rfl⟩
    · exact ⟨true, [.err .linkTimeout 0, .noData 0xFF], rfl, rfl, rfl, .inl rfl⟩

end Sys2Proof.Machine
end

