-- ==== Sys2Proof/Laws/Memory.lean ====
section
/-! SUPPORT. The laws of the frame buffer's memory: read after write, and the canonical form that
every operation keeps. -/

namespace Sys2Proof.Machine

theorem Memory.read_write_same (m : Memory) (i : Nat) (v : Byte) :
    Memory.read (Memory.write m i v) i = some v := by
  induction m with
  | nil => simp [Memory.write, Memory.read]
  | cons c m ih =>
    obtain ⟨a, b⟩ := c
    simp only [Memory.write]
    split_ifs with h1 h2
    · simp [Memory.read]
    · simp [Memory.read, h2]
    · simp [Memory.read, h2, ih]

theorem Memory.read_write_other (m : Memory) (i j : Nat) (v : Byte) (h : j ≠ i) :
    Memory.read (Memory.write m i v) j = Memory.read m j := by
  induction m with
  | nil => simp [Memory.write, Memory.read, h]
  | cons c m ih =>
    obtain ⟨a, b⟩ := c
    simp only [Memory.write]
    split_ifs with h1 h2
    · simp [Memory.read, h]
    · subst h2; simp [Memory.read, h]
    · simp [Memory.read, ih]

theorem Memory.risingFrom_mono (m : Memory) {lo lo' : Nat} (h : lo' ≤ lo)
    (hm : Memory.risingFrom lo m = true) : Memory.risingFrom lo' m = true := by
  cases m with
  | nil => rfl
  | cons c m =>
    simp only [Memory.risingFrom, Bool.and_eq_true, decide_eq_true_eq] at hm ⊢
    exact ⟨h.trans hm.1, hm.2⟩

theorem Memory.risingFrom_write (m : Memory) (lo i : Nat) (v : Byte) (hlo : lo ≤ i)
    (hm : Memory.risingFrom lo m = true) : Memory.risingFrom lo (Memory.write m i v) = true := by
  induction m generalizing lo with
  | nil => simp [Memory.write, Memory.risingFrom, hlo]
  | cons c m ih =>
    obtain ⟨a, b⟩ := c
    simp only [Memory.risingFrom, Bool.and_eq_true, decide_eq_true_eq] at hm
    simp only [Memory.write]
    split_ifs with h1 h2
    · simp only [Memory.risingFrom, Bool.and_eq_true, decide_eq_true_eq]
      exact ⟨hlo, h1, hm.2⟩
    · simp only [Memory.risingFrom, Bool.and_eq_true, decide_eq_true_eq]
      exact hm
    · simp only [Memory.risingFrom, Bool.and_eq_true, decide_eq_true_eq]
      exact ⟨hm.1, ih (a + 1) (by omega) hm.2⟩

/-- A write keeps the canonical form. -/
theorem Memory.wf_write (m : Memory) (i : Nat) (v : Byte) (hm : Memory.wf m = true) :
    Memory.wf (Memory.write m i v) = true :=
  Memory.risingFrom_write m 0 i v (Nat.zero_le _) hm

/-- An append, if it answers a next state, keeps the canonical form. -/
theorem bufAppend_wf {b : Byte} {s t : State} (h : bufAppend b s = .next t)
    (hs : Memory.wf s.buf = true) : Memory.wf t.buf = true := by
  unfold bufAppend at h
  split at h
  · cases h; exact Memory.wf_write _ _ _ hs
  · cases h

/-- Clearing the buffer gives the canonical form. -/
theorem bufClear_wf (s : State) : Memory.wf (bufClear s).buf = true := rfl

/-- The memory right after reset is in canonical form. -/
theorem reset_wf : Memory.wf State.reset.buf = true := rfl

theorem Memory.readRange_length {m : Memory} {i k : Nat} {bs : List Byte}
    (h : Memory.readRange m i k = some bs) : bs.length = k := by
  induction k generalizing i bs with
  | zero => simp only [Memory.readRange, Option.some.injEq] at h; simp [← h]
  | succ k ih =>
    simp only [Memory.readRange] at h
    split at h
    · rename_i b bs' _ h'
      cases h
      simp [ih h']
    · cases h

/-- A range reads byte by byte. -/
theorem Memory.readRange_get {m : Memory} {i k : Nat} {bs : List Byte}
    (h : Memory.readRange m i k = some bs) (j : Nat) (hj : j < k) :
    bs[j]? = Memory.read m (i + j) := by
  induction k generalizing i bs j with
  | zero => omega
  | succ k ih =>
    simp only [Memory.readRange] at h
    split at h
    · rename_i b bs' hb h'
      cases h
      cases j with
      | zero => simp [hb]
      | succ j => simpa [Nat.add_assoc, Nat.add_comm 1 j] using ih h' j (by omega)
    · cases h

/-- A range can be read when each of its bytes is held. -/
theorem Memory.readRange_isSome {m : Memory} {i k : Nat}
    (h : ∀ j, j < k → (Memory.read m (i + j)).isSome = true) :
    (Memory.readRange m i k).isSome = true := by
  induction k generalizing i with
  | zero => simp [Memory.readRange]
  | succ k ih =>
    have h0 := h 0 (by omega)
    have h1 := ih (i := i + 1) (fun j hj => by
      simpa [Nat.add_assoc, Nat.add_comm 1 j] using h (j + 1) (by omega))
    obtain ⟨b, hb⟩ := Option.isSome_iff_exists.mp (by simpa using h0)
    obtain ⟨bs, hbs⟩ := Option.isSome_iff_exists.mp h1
    simp [Memory.readRange, hb, hbs]

end Sys2Proof.Machine
end

