-- ==== Sys2Proof/Laws/Operands.lean ====
section
/-! SUPPORT. The laws of the operand forms: byte layout, bit fields, variable-length fields, records,
and that the decode loop's fuel is enough. -/

namespace Sys2Proof.Machine
/-- Four bytes of a number, least significant first, give the number back. -/
theorem ofLe32_extract (t : BitVec 32) :
    ofLe32 (t.extractLsb' 0 8) (t.extractLsb' 8 8) (t.extractLsb' 16 8) (t.extractLsb' 24 8) = t := by
  apply BitVec.eq_of_getLsbD_eq
  intro i hi
  simp only [ofLe32, BitVec.getLsbD_append, BitVec.getLsbD_extractLsb']
  split_ifs with h1 h2 h3
  · simp [h1]
  · have : i - 8 < 8 := by omega
    simp only [this, decide_true, Bool.true_and]; congr 1; omega
  · have : i - 8 - 8 < 8 := by omega
    simp only [this, decide_true, Bool.true_and]; congr 1; omega
  · have : i - 8 - 8 - 8 < 8 := by omega
    simp only [this, decide_true, Bool.true_and]; congr 1; omega

/-- The operand layout of a 32-bit number is read back as that number. -/
theorem ofLe32_le32 (t : BitVec 32) : ∃ a b c d, le32 t = [a, b, c, d] ∧ ofLe32 a b c d = t :=
  ⟨_, _, _, _, rfl, ofLe32_extract t⟩

/-- The coding of a DIF byte made from its bits. -/
theorem codingOf_difByte : ∀ (e : Bool) (fff : BitVec 3) (k : BitVec 4),
    codingOf (difByte e fff k) = k.toNat := by
  decide

/-- The free bits of a DIF byte made from its bits. -/
theorem difByte_bits : ∀ (e : Bool) (fff : BitVec 3) (k : BitVec 4),
    (difByte e fff k).msb = e ∧ (difByte e fff k).extractLsb' 4 3 = fff := by
  decide

/-- The free bits of a 3-bit VIF byte made from its bits. -/
theorem vifByte3_bits : ∀ (e : Bool) (n : BitVec 3) (k : BitVec 4),
    (vifByte3 e k n).msb = e ∧ (vifByte3 e k n).extractLsb' 0 3 = n := by
  decide

/-- The free bits of a 2-bit VIF byte made from its bits. -/
theorem vifByte2_bits : ∀ (e : Bool)  (n : BitVec 2) (k : BitVec 5),
    (vifByte2 e k n).msb = e ∧ (vifByte2 e k n).extractLsb' 0 2 = n := by
  decide

/-- VALIDATE as one chain of its four checks. -/
theorem validateFrame_eq (f : List Byte) :
    validateFrame f =
      if byteAt f 0 ≠ startByte ∨ byteAt f 3 ≠ startByte then
        .err .badStart (if byteAt f 0 = startByte then byteAt f 3 else byteAt f 0)
      else if byteAt f 1 ≠ byteAt f 2 then .err .badLength (byteAt f 2)
      else if byteAt f (f.length - 1) ≠ stopByte then .err .badStop (byteAt f (f.length - 1))
      else if cs8 (payloadOf f) ≠ byteAt f (f.length - 2) then .err .badChecksum (cs8 (payloadOf f))
      else .ok (payloadOf f) := by
  by_cases h1 : byteAt f 0 ≠ startByte ∨ byteAt f 3 ≠ startByte
  · simp only [validateFrame, startCheck, if_pos h1]
  by_cases h2 : byteAt f 1 ≠ byteAt f 2
  · simp only [validateFrame, startCheck, lengthCheck, if_neg h1, if_pos h2]
  by_cases h3 : byteAt f (f.length - 1) ≠ stopByte
  · simp only [validateFrame, startCheck, lengthCheck, stopCheck, if_neg h1, if_neg h2, if_pos h3]
  by_cases h4 : cs8 (payloadOf f) ≠ byteAt f (f.length - 2)
  · simp only [validateFrame, startCheck, lengthCheck, stopCheck, sumCheck, if_neg h1, if_neg h2,
      if_neg h3, if_pos h4]
  · simp only [validateFrame, startCheck, lengthCheck, stopCheck, sumCheck, if_neg h1, if_neg h2,
      if_neg h3, if_neg h4]

/-- When VALIDATE answers a payload: all four checks pass, and it is the payload range. -/
theorem validateFrame_ok {f p : List Byte} :
    validateFrame f = .ok p ↔
      byteAt f 0 = startByte ∧ byteAt f 3 = startByte ∧ byteAt f 1 = byteAt f 2 ∧
        byteAt f (f.length - 1) = stopByte ∧ cs8 (payloadOf f) = byteAt f (f.length - 2) ∧
        p = payloadOf f := by
  rw [validateFrame_eq]
  constructor
  · intro h
    split_ifs at h with h1 h2 h3 h4
    exact ⟨by tauto, by tauto, by tauto, by tauto, by tauto, by cases h; rfl⟩
  · rintro ⟨h1, h2, h3, h4, h5, rfl⟩
    rw [if_neg (by tauto), if_neg (by tauto), if_neg (by tauto), if_neg (by tauto)]

/-- A field has at least one byte and ends inside the bytes it is read from. -/
theorem fieldLength_bounds {bs : List Byte} {k : Nat} (h : fieldLength bs = some k) :
    1 ≤ k ∧ k ≤ bs.length := by
  induction bs generalizing k with
  | nil => simp [fieldLength] at h
  | cons b bs ih =>
    simp only [fieldLength] at h
    split at h
    · obtain ⟨k', hk', rfl⟩ := Option.map_eq_some_iff.mp h
      have := ih hk'
      simp; omega
    · cases h; simp

/-- What READFIELD can answer. -/
theorem readField_eq_some {p : List Byte} {c : Nat} {v : Field} (h : readField p c = some v) :
    v.start = c ∧ p[c]? = some v.first ∧ fieldLength (p.drop c) = some v.length := by
  unfold readField at h
  split at h
  · rename_i b k hb hk
    cases h
    exact ⟨rfl, hb, hk⟩
  · cases h

/-- A field ends after it starts and inside the payload. -/
theorem readField_bounds {p : List Byte} {c : Nat} {v : Field} (h : readField p c = some v) :
    c < fieldNext v ∧ fieldNext v ≤ p.length := by
  obtain ⟨h1, h2, h3⟩ := readField_eq_some h
  have := fieldLength_bounds h3
  simp only [List.length_drop] at this
  unfold fieldNext
  omega

/-- What a coding that reads a value has found. -/
theorem codedValue_value {d0 : Byte} {c : Nat} {avail : List Byte} {raw : BitVec 32} {w : Nat}
    (h : codedValue d0 c avail = .value raw w) :
    w = codingOf d0 ∧ 1 ≤ w ∧ w ≤ 4 ∧ w ≤ avail.length ∧ raw = signedLe (avail.take w) := by
  unfold codedValue at h
  simp only at h
  split_ifs at h with h1 h2
  simp only [CodedValue.value.injEq] at h
  obtain ⟨rfl, rfl⟩ := h
  exact ⟨rfl, by omega, by omega, by omega, rfl⟩

/-- A record moves the cursor on by at least 3 and stays inside the payload (R221 (b)). -/
theorem recordAt_record {table : List VifRow} {p : List Byte} {c : Nat} {tag : Tag} {raw : BitVec 32}
    {e : Int} {next : Nat} (h : recordAt table p c = .record tag raw e next) :
    c + 3 ≤ next ∧ next ≤ p.length := by
  unfold recordAt at h
  split at h
  · cases h
  · rename_i d hd
    split at h
    · cases h
    · rename_i v hv
      split at h
      · cases h
      · rename_i raw' w hw
        split at h
        · cases h
        · cases h
          have h1 := readField_bounds hd
          have h2 := readField_bounds hv
          obtain ⟨_, h3, _, h4, _⟩ := codedValue_value hw
          rw [List.length_drop] at h4
          omega

/-- Fuel that covers the rest of the payload is enough: more fuel changes nothing. -/
theorem decodeLoop_fuel (p : List Byte) (fuel cur : Nat) (seen : Byte) (s : State)
    (h : p.length ≤ cur + fuel) (extra : Nat) :
    decodeLoop (fuel + extra) p cur seen s = decodeLoop fuel p cur seen s := by
  induction fuel generalizing cur seen s with
  | zero =>
    cases extra with
    | zero => rfl
    | succ n =>
      have : ¬ cur < p.length := by omega
      simp [decodeLoop, this]
  | succ fuel ih =>
    rw [Nat.add_right_comm]
    simp only [decodeLoop]
    split
    · split
      · rfl
      · rename_i tag raw e next hr
        have := recordAt_record hr
        exact ih _ _ _ (by omega)
    · rfl
end Sys2Proof.Machine
end

