-- ==== Sys2Proof/Laws/PerInstr.lean ====
section
/-! SUPPORT. What is said of every operation, one lemma per constructor: the form of its encoding's
first byte, as opcode_table.json gives it. -/

namespace Sys2Proof.Laws

/-- The format of a row of opcode_table.json, and the mask and the value of its first byte. A row the
table gives no encoding has its row number instead (log 3); a byte the table leaves open has mask 0. -/
structure FirstByte where
  fmt : Format
  mask : Byte
  value : Byte

/-- The row of each constructor. -/
def firstByte : Instr → FirstByte
  | .reset => ⟨.ev, 0xFF, 0x00⟩
  | .poll => ⟨.ev, 0xFF, 0x01⟩
  | .tick _ _ => ⟨.ev, 0xFF, 0x02⟩
  | .evReserved => ⟨.ev, 0xFF, 0x03⟩
  | .rxbyte _ _ => ⟨.micro, 0xFF, 0x04⟩
  | .symAck _ => ⟨.sym, 0xFF, 0xE5⟩
  | .symStart _ => ⟨.sym, 0xFF, 0x68⟩
  | .symIgnore _ _ => ⟨.sym, 0x00, 0x00⟩
  | .symData _ _ => ⟨.sym, 0x00, 0x00⟩
  | .frameToolong => ⟨.micro, 0xFF, 0x09⟩
  | .frameReady => ⟨.micro, 0xFF, 0x0A⟩
  | .complete => ⟨.micro, 0xFF, 0x0B⟩
  | .validate _ => ⟨.frame, 0x00, 0x00⟩
  | .chkStart _ => ⟨.micro, 0xFF, 0x0D⟩
  | .chkLength _ => ⟨.micro, 0xFF, 0x0E⟩
  | .chkStop _ => ⟨.micro, 0xFF, 0x0F⟩
  | .chkSum _ => ⟨.micro, 0xFF, 0x10⟩
  | .cs8 _ => ⟨.micro, 0xFF, 0x11⟩
  | .classify _ _ => ⟨.micro, 0xFF, 0x12⟩
  | .decode _ => ⟨.micro, 0xFF, 0x13⟩
  | .readfield _ _ => ⟨.micro, 0xFF, 0x14⟩
  | .record _ _ => ⟨.micro, 0xFF, 0x15⟩
  | .qclass _ _ => ⟨.micro, 0xFF, 0x16⟩
  | .difC0 _ _ => ⟨.dif, 0x0F, 0x00⟩
  | .difInt8 _ _ _ _ => ⟨.dif, 0x0F, 0x01⟩
  | .difInt16 _ _ _ _ => ⟨.dif, 0x0F, 0x02⟩
  | .difInt24 _ _ _ _ => ⟨.dif, 0x0F, 0x03⟩
  | .difInt32 _ _ _ _ => ⟨.dif, 0x0F, 0x04⟩
  | .difC5 _ _ => ⟨.dif, 0x0F, 0x05⟩
  | .difC6 _ _ => ⟨.dif, 0x0F, 0x06⟩
  | .difC7 _ _ => ⟨.dif, 0x0F, 0x07⟩
  | .difC8 _ _ => ⟨.dif, 0x0F, 0x08⟩
  | .difC9 _ _ => ⟨.dif, 0x0F, 0x09⟩
  | .difCA _ _ => ⟨.dif, 0x0F, 0x0A⟩
  | .difCB _ _ => ⟨.dif, 0x0F, 0x0B⟩
  | .difCC _ _ => ⟨.dif, 0x0F, 0x0C⟩
  | .difCD _ _ => ⟨.dif, 0x0F, 0x0D⟩
  | .difCE _ _ => ⟨.dif, 0x0F, 0x0E⟩
  | .difCF _ _ => ⟨.dif, 0x0F, 0x0F⟩
  | .vifEnergy _ _ _ => ⟨.vif, 0x78, 0x00⟩
  | .vifVolume _ _ _ => ⟨.vif, 0x78, 0x10⟩
  | .vifPower _ _ _ => ⟨.vif, 0x78, 0x28⟩
  | .vifFlow _ _ _ => ⟨.vif, 0x78, 0x38⟩
  | .vifTflow _ _ _ => ⟨.vif, 0x7C, 0x58⟩
  | .vifTreturn _ _ _ => ⟨.vif, 0x7C, 0x5C⟩
  | .vifTdiff _ _ _ => ⟨.vif, 0x7C, 0x60⟩
  | .vifStatus _ => ⟨.vif, 0xFF, 0xFD⟩
  | .vifOther _ => ⟨.vif, 0x00, 0x00⟩
  | .supervise _ => ⟨.micro, 0xFF, 0x30⟩
  | .tmoLink _ => ⟨.micro, 0xFF, 0x31⟩
  | .tmoGap _ => ⟨.micro, 0xFF, 0x32⟩
  | .silence _ => ⟨.micro, 0xFF, 0x33⟩
  | .req1 => ⟨.req, 0xFF, 0x68⟩
  | .req2 => ⟨.req, 0xFF, 0x68⟩
  | .req3 => ⟨.req, 0xFF, 0x68⟩
  | .req4 => ⟨.req, 0xFF, 0x68⟩
  | .req5 => ⟨.req, 0xFF, 0x68⟩
  | .pollframe _ => ⟨.req, 0xFF, 0x68⟩
  | .pollbuild => ⟨.micro, 0xFF, 0x3A⟩
  | .send _ => ⟨.micro, 0xFF, 0x3B⟩
  | .tx _ => ⟨.micro, 0xFF, 0x3C⟩
  | .raise _ _ _ => ⟨.micro, 0xFF, 0x3D⟩

/-- Masking with all ones keeps a byte. -/
theorem and_allOnes : ∀ b : Byte, b &&& 0xFF = b := by
  decide

/-- The coding bits of a DIF byte made from its bits. -/
theorem difByte_coding : ∀ (e : Bool) (fff : BitVec 3) (k : BitVec 4),
    Machine.difByte e fff k &&& 0x0F = 0#4 ++ k := by
  decide

/-- The pattern bits of a 3-bit VIF byte made from its bits. -/
theorem vifByte3_pattern : ∀ (e : Bool) (n : BitVec 3) (k : BitVec 4),
    Machine.vifByte3 e k n &&& 0x78 = 0#1 ++ k ++ 0#3 := by
  decide

/-- The pattern bits of a 2-bit VIF byte made from its bits. -/
theorem vifByte2_pattern : ∀ (e : Bool) (n : BitVec 2) (k : BitVec 5),
    Machine.vifByte2 e k n &&& 0x7C = 0#1 ++ k ++ 0#2 := by
  decide

/-- The encoding of a well-formed operation is in its row's format and begins with a byte that agrees
with the row's fixed bits. -/
def EncodedForm.Statement (i : Instr) : Prop :=
  wellFormed i = true →
    ∃ b rest, encode i = ⟨(firstByte i).fmt, b :: rest⟩ ∧ b &&& (firstByte i).mask = (firstByte i).value

theorem EncodedForm.reset :
    EncodedForm.Statement (.reset) := fun _ => ⟨_, _, rfl, by decide⟩

theorem EncodedForm.poll :
    EncodedForm.Statement (.poll) := fun _ => ⟨_, _, rfl, by decide⟩

theorem EncodedForm.tick (now : Time) (rx : List Byte) :
    EncodedForm.Statement (.tick now rx) :=
  fun _ => ⟨_, _, rfl, by simp [firstByte]⟩

theorem EncodedForm.evReserved :
    EncodedForm.Statement (.evReserved) := fun _ => ⟨_, _, rfl, by decide⟩

theorem EncodedForm.rxbyte (b : Byte) (now : Time) :
    EncodedForm.Statement (.rxbyte b now) := fun _ => ⟨_, _, rfl, and_allOnes _⟩

theorem EncodedForm.symAck (now : Time) :
    EncodedForm.Statement (.symAck now) := fun _ => ⟨_, _, rfl, and_allOnes _⟩

theorem EncodedForm.symStart (now : Time) :
    EncodedForm.Statement (.symStart now) := fun _ => ⟨_, _, rfl, and_allOnes _⟩

theorem EncodedForm.symIgnore (b : Byte) (now : Time) :
    EncodedForm.Statement (.symIgnore b now) := fun _ => ⟨_, _, rfl, by simp [firstByte]⟩

theorem EncodedForm.symData (b : Byte) (now : Time) :
    EncodedForm.Statement (.symData b now) := fun _ => ⟨_, _, rfl, by simp [firstByte]⟩

theorem EncodedForm.frameToolong :
    EncodedForm.Statement (.frameToolong) := fun _ => ⟨_, _, rfl, and_allOnes _⟩

theorem EncodedForm.frameReady :
    EncodedForm.Statement (.frameReady) := fun _ => ⟨_, _, rfl, and_allOnes _⟩

theorem EncodedForm.complete :
    EncodedForm.Statement (.complete) := fun _ => ⟨_, _, rfl, and_allOnes _⟩

theorem EncodedForm.validate (f : List Byte) :
    EncodedForm.Statement (.validate f) := by
  intro h
  cases f with
  | nil => exact absurd h (by decide)
  | cons b rest => exact ⟨b, rest, rfl, by simp [firstByte]⟩

theorem EncodedForm.chkStart (f : List Byte) :
    EncodedForm.Statement (.chkStart f) := fun _ => ⟨_, _, rfl, and_allOnes _⟩

theorem EncodedForm.chkLength (f : List Byte) :
    EncodedForm.Statement (.chkLength f) := fun _ => ⟨_, _, rfl, and_allOnes _⟩

theorem EncodedForm.chkStop (f : List Byte) :
    EncodedForm.Statement (.chkStop f) := fun _ => ⟨_, _, rfl, and_allOnes _⟩

theorem EncodedForm.chkSum (f : List Byte) :
    EncodedForm.Statement (.chkSum f) := fun _ => ⟨_, _, rfl, and_allOnes _⟩

theorem EncodedForm.cs8 (bytes : List Byte) :
    EncodedForm.Statement (.cs8 bytes) := fun _ => ⟨_, _, rfl, and_allOnes _⟩

theorem EncodedForm.classify (payload : List Byte) (wasInit : Bool) :
    EncodedForm.Statement (.classify payload wasInit) := fun _ => ⟨_, _, rfl, and_allOnes _⟩

theorem EncodedForm.decode (payload : List Byte) :
    EncodedForm.Statement (.decode payload) := fun _ => ⟨_, _, rfl, and_allOnes _⟩

theorem EncodedForm.readfield (payload : List Byte) (c : Nat) :
    EncodedForm.Statement (.readfield payload c) := fun _ => ⟨_, _, rfl, and_allOnes _⟩

theorem EncodedForm.record (payload : List Byte) (c : Nat) :
    EncodedForm.Statement (.record payload c) := fun _ => ⟨_, _, rfl, and_allOnes _⟩

theorem EncodedForm.qclass (v : Field) (payload : List Byte) :
    EncodedForm.Statement (.qclass v payload) := fun _ => ⟨_, _, rfl, and_allOnes _⟩

theorem EncodedForm.difC0 (e : Bool) (fff : BitVec 3) :
    EncodedForm.Statement (.difC0 e fff) := fun _ => ⟨_, _, rfl, difByte_coding e fff 0⟩

theorem EncodedForm.difInt8 (e : Bool) (fff : BitVec 3) (c : Nat) (avail : List Byte) :
    EncodedForm.Statement (.difInt8 e fff c avail) := fun _ => ⟨_, _, rfl, difByte_coding e fff 1⟩

theorem EncodedForm.difInt16 (e : Bool) (fff : BitVec 3) (c : Nat) (avail : List Byte) :
    EncodedForm.Statement (.difInt16 e fff c avail) := fun _ => ⟨_, _, rfl, difByte_coding e fff 2⟩

theorem EncodedForm.difInt24 (e : Bool) (fff : BitVec 3) (c : Nat) (avail : List Byte) :
    EncodedForm.Statement (.difInt24 e fff c avail) := fun _ => ⟨_, _, rfl, difByte_coding e fff 3⟩

theorem EncodedForm.difInt32 (e : Bool) (fff : BitVec 3) (c : Nat) (avail : List Byte) :
    EncodedForm.Statement (.difInt32 e fff c avail) := fun _ => ⟨_, _, rfl, difByte_coding e fff 4⟩

theorem EncodedForm.difC5 (e : Bool) (fff : BitVec 3) :
    EncodedForm.Statement (.difC5 e fff) := fun _ => ⟨_, _, rfl, difByte_coding e fff 5⟩

theorem EncodedForm.difC6 (e : Bool) (fff : BitVec 3) :
    EncodedForm.Statement (.difC6 e fff) := fun _ => ⟨_, _, rfl, difByte_coding e fff 6⟩

theorem EncodedForm.difC7 (e : Bool) (fff : BitVec 3) :
    EncodedForm.Statement (.difC7 e fff) := fun _ => ⟨_, _, rfl, difByte_coding e fff 7⟩

theorem EncodedForm.difC8 (e : Bool) (fff : BitVec 3) :
    EncodedForm.Statement (.difC8 e fff) := fun _ => ⟨_, _, rfl, difByte_coding e fff 8⟩

theorem EncodedForm.difC9 (e : Bool) (fff : BitVec 3) :
    EncodedForm.Statement (.difC9 e fff) := fun _ => ⟨_, _, rfl, difByte_coding e fff 9⟩

theorem EncodedForm.difCA (e : Bool) (fff : BitVec 3) :
    EncodedForm.Statement (.difCA e fff) := fun _ => ⟨_, _, rfl, difByte_coding e fff 10⟩

theorem EncodedForm.difCB (e : Bool) (fff : BitVec 3) :
    EncodedForm.Statement (.difCB e fff) := fun _ => ⟨_, _, rfl, difByte_coding e fff 11⟩

theorem EncodedForm.difCC (e : Bool) (fff : BitVec 3) :
    EncodedForm.Statement (.difCC e fff) := fun _ => ⟨_, _, rfl, difByte_coding e fff 12⟩

theorem EncodedForm.difCD (e : Bool) (fff : BitVec 3) :
    EncodedForm.Statement (.difCD e fff) := fun _ => ⟨_, _, rfl, difByte_coding e fff 13⟩

theorem EncodedForm.difCE (e : Bool) (fff : BitVec 3) :
    EncodedForm.Statement (.difCE e fff) := fun _ => ⟨_, _, rfl, difByte_coding e fff 14⟩

theorem EncodedForm.difCF (e : Bool) (fff : BitVec 3) :
    EncodedForm.Statement (.difCF e fff) := fun _ => ⟨_, _, rfl, difByte_coding e fff 15⟩

theorem EncodedForm.vifEnergy (e : Bool) (n : BitVec 3) (raw : BitVec 32) :
    EncodedForm.Statement (.vifEnergy e n raw) := fun _ => ⟨_, _, rfl, vifByte3_pattern e n 0x0⟩

theorem EncodedForm.vifVolume (e : Bool) (n : BitVec 3) (raw : BitVec 32) :
    EncodedForm.Statement (.vifVolume e n raw) := fun _ => ⟨_, _, rfl, vifByte3_pattern e n 0x2⟩

theorem EncodedForm.vifPower (e : Bool) (n : BitVec 3) (raw : BitVec 32) :
    EncodedForm.Statement (.vifPower e n raw) := fun _ => ⟨_, _, rfl, vifByte3_pattern e n 0x5⟩

theorem EncodedForm.vifFlow (e : Bool) (n : BitVec 3) (raw : BitVec 32) :
    EncodedForm.Statement (.vifFlow e n raw) := fun _ => ⟨_, _, rfl, vifByte3_pattern e n 0x7⟩

theorem EncodedForm.vifTflow (e : Bool) (n : BitVec 2) (raw : BitVec 32) :
    EncodedForm.Statement (.vifTflow e n raw) := fun _ => ⟨_, _, rfl, vifByte2_pattern e n 0x16⟩

theorem EncodedForm.vifTreturn (e : Bool) (n : BitVec 2) (raw : BitVec 32) :
    EncodedForm.Statement (.vifTreturn e n raw) := fun _ => ⟨_, _, rfl, vifByte2_pattern e n 0x17⟩

theorem EncodedForm.vifTdiff (e : Bool) (n : BitVec 2) (raw : BitVec 32) :
    EncodedForm.Statement (.vifTdiff e n raw) := fun _ => ⟨_, _, rfl, vifByte2_pattern e n 0x18⟩

theorem EncodedForm.vifStatus (raw : BitVec 32) :
    EncodedForm.Statement (.vifStatus raw) := fun _ => ⟨_, _, rfl, and_allOnes _⟩

theorem EncodedForm.vifOther (v0 : Byte) :
    EncodedForm.Statement (.vifOther v0) := fun _ => ⟨_, _, rfl, by simp [firstByte]⟩

theorem EncodedForm.supervise (now : Time) :
    EncodedForm.Statement (.supervise now) := fun _ => ⟨_, _, rfl, and_allOnes _⟩

theorem EncodedForm.tmoLink (now : Time) :
    EncodedForm.Statement (.tmoLink now) := fun _ => ⟨_, _, rfl, and_allOnes _⟩

theorem EncodedForm.tmoGap (now : Time) :
    EncodedForm.Statement (.tmoGap now) := fun _ => ⟨_, _, rfl, and_allOnes _⟩

theorem EncodedForm.silence (n : Nat) :
    EncodedForm.Statement (.silence n) := fun _ => ⟨_, _, rfl, and_allOnes _⟩

theorem EncodedForm.req1 :
    EncodedForm.Statement (.req1) := fun _ => ⟨_, _, rfl, and_allOnes _⟩

theorem EncodedForm.req2 :
    EncodedForm.Statement (.req2) := fun _ => ⟨_, _, rfl, and_allOnes _⟩

theorem EncodedForm.req3 :
    EncodedForm.Statement (.req3) := fun _ => ⟨_, _, rfl, and_allOnes _⟩

theorem EncodedForm.req4 :
    EncodedForm.Statement (.req4) := fun _ => ⟨_, _, rfl, and_allOnes _⟩

theorem EncodedForm.req5 :
    EncodedForm.Statement (.req5) := fun _ => ⟨_, _, rfl, and_allOnes _⟩

theorem EncodedForm.pollframe (fcb : Bool) :
    EncodedForm.Statement (.pollframe fcb) := by
  intro _
  cases fcb <;> exact ⟨_, _, rfl, and_allOnes 0x68⟩

theorem EncodedForm.pollbuild :
    EncodedForm.Statement (.pollbuild) := fun _ => ⟨_, _, rfl, and_allOnes _⟩

theorem EncodedForm.send (now : Time) :
    EncodedForm.Statement (.send now) := fun _ => ⟨_, _, rfl, and_allOnes _⟩

theorem EncodedForm.tx (f : List Byte) :
    EncodedForm.Statement (.tx f) := fun _ => ⟨_, _, rfl, and_allOnes _⟩

theorem EncodedForm.raise (code : ErrorCode) (info : Byte) (mask : Byte) :
    EncodedForm.Statement (.raise code info mask) := fun _ => ⟨_, _, rfl, and_allOnes _⟩

end Sys2Proof.Laws
end

