-- ==== Sys2Proof/Tests/Slice0.lean ====
section
/-! SUPPORT. The model's own tests: ill-formed terms, words written out from the spec's encodings,
single steps against the vectors of 95_test_vectors.md and the rules, and for every statement with
hypotheses a witness that meets them. -/

namespace Sys2Proof.Tests

open Sys2Proof.Machine

/-! ### Helpers -/

/-- The cells of a byte list from an index on. -/
def cells : Nat → List Byte → Memory
  | _, [] => []
  | i, b :: bs => (i, b) :: cells (i + 1) bs

/-- The reset state with a partial frame held. -/
def holding (bs : List Byte) : State := { State.reset with buf := cells 0 bs, len := bs.length }

/-- The steady state, a reply pending (the state of the vectors in part 2.2). -/
def steadyState : State := { State.reset with initStep := .steady, replyPending := true }

/-- The reset state with one input pending. -/
def presented (x : Input) : State := { State.reset with inputs := [x] }

/-- What an operation leads to, if it answers a next state. -/
def after (i : Instr) (s : State) : Option State :=
  match exec i s with
  | .next t => some t
  | .fault _ => none
  | .refused _ => none

/-- The outputs of an operation. -/
def outputs (i : Instr) (s : State) : Option (List OutputEvent) := (after i s).map State.out

/-- The value that an operation returns. -/
def returned (i : Instr) (s : State) : Option MicroResult := (after i s).map State.res

/-- The operation an input decodes to, with the spec's window. -/
def decoded (len : Nat) (fmt : Format) (bytes : List Byte) : Option Instr :=
  match decodeInput 4 len ⟨fmt, bytes⟩ with
  | .ok i => some i
  | .error _ => none

/-! ### Terms that are not well formed -/

theorem test_wf_symIgnore :
    wellFormed (.symIgnore 0x68 0) = false ∧ wellFormed (.symIgnore 0xE5 0) = false ∧
    wellFormed (.symIgnore 0x00 0) = true := by decide
theorem test_wf_frames :
    wellFormed (.validate [0x68, 0, 0, 0x68, 0]) = false ∧
    wellFormed (.chkStart [0x68, 1, 1, 0x68, 0, 0x16]) = false ∧
    wellFormed (.chkLength []) = false ∧ wellFormed (.chkStop [0x68]) = false ∧
    wellFormed (.chkSum [0x68, 0, 0, 0x68, 0, 0x16, 0]) = false ∧
    wellFormed (.validate [0x68, 0, 0, 0x68, 0, 0x16]) = true := by decide
theorem test_wf_payloads :
    wellFormed (.classify (List.replicate 256 0) true) = false ∧
    wellFormed (.decode (List.replicate 256 0)) = false ∧
    wellFormed (.readfield (List.replicate 256 0) 0) = false ∧
    wellFormed (.record (List.replicate 256 0) 0) = false ∧
    wellFormed (.qclass ⟨0, 0, 1⟩ (List.replicate 256 0)) = false := by decide +kernel
theorem test_wf_offsets :
    wellFormed (.readfield [] 256) = false ∧ wellFormed (.record [0x01] 1) = false ∧
    wellFormed (.qclass ⟨0, 0x03, 1⟩ [0x13]) = false ∧
    wellFormed (.difInt8 false 0 256 []) = false ∧ wellFormed (.difInt16 false 0 256 []) = false ∧
    wellFormed (.difInt24 false 0 256 []) = false ∧
    wellFormed (.difInt32 false 0 256 []) = false ∧ wellFormed (.silence 65536) = false := by decide
theorem test_wf_vifOther :
    wellFormed (.vifOther 0x03) = false ∧ wellFormed (.vifOther 0x6D) = true := by decide

/-! ### Words written out from the encodings -/

/-- R91. -/
theorem test_decode_ev :
    decoded 0 .ev [0b00] = some .reset ∧ decoded 0 .ev [0b01] = some .poll ∧
    decoded 0 .ev [0b10, 0x78, 0x56, 0x34, 0x12, 0xE5] = some (.tick 0x12345678 [0xE5]) ∧
    decoded 0 .ev [0b11] = some .evReserved ∧ decoded 0 .ev [0b100] = none := by decide

/-- R92; S4, S7, S8 and S9 of the vectors. -/
theorem test_decode_sym :
    decoded 0 .sym [0b11100101, 1, 0, 0, 0] = some (.symAck 1) ∧
    decoded 3 .sym [0b11100101, 1, 0, 0, 0] = some (.symAck 1) ∧
    decoded 4 .sym [0b11100101, 1, 0, 0, 0] = some (.symData 0xE5 1) ∧
    decoded 0 .sym [0b01101000, 1, 0, 0, 0] = some (.symStart 1) ∧
    decoded 1 .sym [0b01101000, 1, 0, 0, 0] = some (.symData 0x68 1) ∧
    decoded 0 .sym [0x10, 1, 0, 0, 0] = some (.symIgnore 0x10 1) := by decide

/-- R93; V10 and a frame with a byte too few. -/
theorem test_decode_frame :
    decoded 0 .frame [0x69, 3, 3, 0x68, 8, 0, 0x70, 0x78, 0x16] =
      some (.validate [0x69, 3, 3, 0x68, 8, 0, 0x70, 0x78, 0x16]) ∧
    decoded 0 .frame [0x68, 3, 3, 0x68, 8, 0, 0x70, 0x78] = none := by decide

/-- R102, R103: `efff` and the coding in the low nibble. -/
theorem test_decode_dif_integers :
    decoded 0 .dif [0b00000001, 2, 0xFF] = some (.difInt8 false 0 2 [0xFF]) ∧
    decoded 0 .dif [0b11110010, 2, 0x00, 0x80] = some (.difInt16 true 0b111 2 [0x00, 0x80]) ∧
    decoded 0 .dif [0b00010011, 3] = some (.difInt24 false 0b001 3 []) ∧
    decoded 0 .dif [0b10000100, 2, 1, 2, 3, 4] = some (.difInt32 true 0 2 [1, 2, 3, 4]) := by decide
theorem test_decode_dif_aborts :
    decoded 0 .dif [0b10000000] = some (.difC0 true 0) ∧
    decoded 0 .dif [0b01000101] = some (.difC5 false 0b100) ∧
    decoded 0 .dif [0b00100110] = some (.difC6 false 0b010) ∧
    decoded 0 .dif [0b00010111] = some (.difC7 false 0b001) ∧
    decoded 0 .dif [0b11111000] = some (.difC8 true 0b111) ∧
    decoded 0 .dif [0b00001001] = some (.difC9 false 0) ∧
    decoded 0 .dif [0b00001010] = some (.difCA false 0) ∧
    decoded 0 .dif [0b00001011] = some (.difCB false 0) ∧
    decoded 0 .dif [0b10001100] = some (.difCC true 0) ∧
    decoded 0 .dif [0b00001101] = some (.difCD false 0) ∧
    decoded 0 .dif [0b00001110] = some (.difCE false 0) ∧
    decoded 0 .dif [0b00101111] = some (.difCF false 0b010) := by decide

/-- R118, R119; `e`, pattern and exponent field. -/
theorem test_decode_vif :
    decoded 0 .vif [0b10000011, 0xD2, 4, 0, 0] = some (.vifEnergy true 3 1234) ∧
    decoded 0 .vif [0b00010110, 1, 0, 0, 0] = some (.vifVolume false 6 1) ∧
    decoded 0 .vif [0b00101011, 1, 0, 0, 0] = some (.vifPower false 3 1) ∧
    decoded 0 .vif [0b10111111, 1, 0, 0, 0] = some (.vifFlow true 7 1) ∧
    decoded 0 .vif [0b01011010, 1, 0, 0, 0] = some (.vifTflow false 2 1) ∧
    decoded 0 .vif [0b11011101, 1, 0, 0, 0] = some (.vifTreturn true 1 1) ∧
    decoded 0 .vif [0b01100011, 1, 0, 0, 0] = some (.vifTdiff false 3 1) ∧
    decoded 0 .vif [0b11111101, 0b00010111, 1, 0, 0, 0] = some (.vifStatus 1) ∧
    decoded 0 .vif [0b11111101] = some (.vifOther 0xFD) ∧
    decoded 0 .vif [0b01101101] = some (.vifOther 0x6D) ∧
    decoded 0 .vif [0b11111101, 0x18, 1, 0, 0, 0] = none := by decide

/-- R301 to R306. -/
theorem test_decode_requests :
    decoded 0 .req [0x68, 8, 8, 0x68, 0x53, 0xFE, 0x51, 0x0F, 0, 0, 4, 0x5C, 0x11, 0x16] =
      some .req1 ∧
    decoded 0 .req [0x68, 9, 9, 0x68, 0x53, 0xFE, 0x51, 0x0F, 0, 0, 0, 0x59, 0x2D, 0x37, 0x16] =
      some .req2 ∧
    decoded 0 .req [0x68, 8, 8, 0x68, 0x73, 0xFE, 0x51, 0x0F, 0, 0, 0, 0x5D, 0x2E, 0x16] =
      some .req3 ∧
    decoded 0 .req [0x68, 9, 9, 0x68, 0x53, 0xFE, 0x51, 0x0F, 0, 0, 0, 0x59, 0x0C, 0x16, 0x16] =
      some .req5 ∧
    decoded 0 .req [0x68, 9, 9, 0x68, 0x53, 0xFE, 0x51, 0x0F, 0, 0, 0, 0x59, 0x0C, 0x17, 0x16] =
      none := by decide
theorem test_decode_req4 :
    decoded 0 .req ([0x68, 0x77, 0x77, 0x68, 0x53, 0xFE, 0x51, 0x0F, 0, 0, 6, 0x5C, 9, 2, 0, 0, 0x8F,
      0xAD, 0xCE, 0xE5, 0xC7] ++ List.replicate 102 0 ++ [0xD4, 0x16]) = some .req4 := by decide +kernel
theorem test_decode_pollframe :
    decoded 0 .req [0x68, 0x11, 0x11, 0x68, 0x73, 0xFE, 0x51, 0x0F, 0, 0, 1, 0x59, 2, 3, 4, 6, 5, 7, 8,
      9, 0x0B, 0x62, 0x16] = some (.pollframe true) ∧
    decoded 0 .req [0x68, 0x11, 0x11, 0x68, 0x53, 0xFE, 0x51, 0x0F, 0, 0, 1, 0x59, 2, 3, 4, 6, 5, 7, 8,
      9, 0x0B, 0x42, 0x16] = some (.pollframe false) := by decide

/-- The micro port: row numbers of opcode_table.json (log 3). -/
theorem test_decode_micro_receive :
    decoded 0 .micro [4, 0x68, 1, 0, 0, 0] = some (.rxbyte 0x68 1) ∧
    decoded 0 .micro [9] = some .frameToolong ∧ decoded 0 .micro [10] = some .frameReady ∧
    decoded 0 .micro [11] = some .complete ∧
    decoded 0 .micro [13, 0x68, 0, 0, 0x68, 0, 0x16] =
      some (.chkStart [0x68, 0, 0, 0x68, 0, 0x16]) ∧
    decoded 0 .micro [14, 0x68, 0, 1, 0x68, 0, 0x16] =
      some (.chkLength [0x68, 0, 1, 0x68, 0, 0x16]) ∧
    decoded 0 .micro [15, 0x68, 0, 0, 0x68, 0, 0x17] =
      some (.chkStop [0x68, 0, 0, 0x68, 0, 0x17]) ∧
    decoded 0 .micro [16, 0x68, 0, 0, 0x68, 1, 0x16] =
      some (.chkSum [0x68, 0, 0, 0x68, 1, 0x16]) ∧
    decoded 0 .micro [17, 0xFF, 0x01] = some (.cs8 [0xFF, 0x01]) := by decide
theorem test_decode_micro_records :
    decoded 0 .micro [18, 1, 0x08] = some (.classify [0x08] true) ∧
    decoded 0 .micro [19, 0x08, 0x72] = some (.decode [0x08, 0x72]) ∧
    decoded 0 .micro [20, 2, 0x08] = some (.readfield [0x08] 2) ∧
    decoded 0 .micro [21, 0, 0x01, 0x5B, 0xFF] = some (.record [0x01, 0x5B, 0xFF] 0) ∧
    decoded 0 .micro [22, 0x5B, 1, 1, 0x01, 0x5B] = some (.qclass ⟨1, 0x5B, 1⟩ [0x01, 0x5B]) ∧
    decoded 0 .micro [18, 2, 0x08] = none := by decide
theorem test_decode_micro_others :
    decoded 0 .micro [48, 1, 0, 0, 0] = some (.supervise 1) ∧
    decoded 0 .micro [49, 1, 0, 0, 0] = some (.tmoLink 1) ∧
    decoded 0 .micro [50, 1, 0, 0, 0] = some (.tmoGap 1) ∧
    decoded 0 .micro [51, 125, 1] = some (.silence 381) ∧
    decoded 0 .micro [58] = some .pollbuild ∧ decoded 0 .micro [59, 1, 0, 0, 0] = some (.send 1) ∧
    decoded 0 .micro [60, 0xE5] = some (.tx [0xE5]) ∧
    decoded 0 .micro [61, 9, 0, 0xFF] = some (.raise .linkTimeout 0 0xFF) ∧
    decoded 0 .micro [61, 11, 0, 0xFF] = none ∧ decoded 0 .micro [12] = none := by decide

/-- Table words (log 4). -/
theorem test_table_words :
    decodeTableWord 8 0x03 = some .evReserved ∧ decodeTableWord 8 0xE5 = some (.symAck 0) ∧
    decodeTableWord 8 0x68 = some (.symStart 0) ∧
    decodeTableWord 8 0x04 = some (.difInt32 false 0 0 [0, 0, 0, 0]) ∧
    decodeTableWord 8 0x58 = some (.vifTflow false 0 0) ∧
    decodeTableWord 16 0xFD17 = some (.vifStatus 0) ∧
    decodeTableWord 16 18 = some (.raise .linkTimeout 0 0) ∧
    decodeTableWord 112 0x16115C0400000F51FE5368080868 = some .req1 := by decide

/-- A table word placed at the ports is what the next step runs. -/
theorem test_withFetchWord :
    step (State.reset.withFetchWord 8 1) = .next { State.reset with sendTrigger := true } := rfl

/-! ### Single steps -/

/-- P1 E1 of the vectors: RESET from a used state. -/
theorem test_reset : after .reset { steadyState with errLast := 9, len := 3 } = some State.reset := by
  decide
theorem test_poll : (after .poll State.reset).map State.sendTrigger = some true := by decide
theorem test_evReserved : after .evReserved steadyState = some steadyState := by decide

/-- Q2 E4: the first send after a poll. -/
theorem test_tick_sends :
    outputs (.tick 0 []) { State.reset with sendTrigger := true } =
      some [.tx [0x68, 8, 8, 0x68, 0x53, 0xFE, 0x51, 0x0F, 0, 0, 4, 0x5C, 0x11, 0x16]] := by decide

/-- Q3 E4: a data telegram during initialization. -/
theorem test_tick_receives :
    (after (.tick 100 [0x68, 8, 8, 0x68, 8, 0x72, 4, 3, 0xD2, 4, 0, 0, 0x57, 0x16])
      { State.reset with initStep := .step1, replyPending := true }).map
        (fun t => (t.out, t.initStep)) =
      some ([.record .energy 1234 0, .telegramDone 1], .step1Acked) := by decide +kernel

/-- S9: the length byte E5 is taken as the acknowledgment. -/
theorem test_rxbyte_ack_window :
    (after (.rxbyte 0xE5 7) (holding [0x68])).map (fun t => (t.len, t.feeds, t.lastRxMs)) =
      some (0, [.idle], 7) := by decide

/-- S9': with a window of 1 it is data. -/
theorem test_rxbyte_window_one :
    (after (.rxbyte 0xE5 7)
      { holding [0x68] with cfg := { standardConfig with ackWindowLen := 1 } }).map
        (fun t => (t.len, t.feeds)) = some (2, [.accumulating]) := by decide
theorem test_symAck :
    (after (.symAck 5) State.reset).map (fun t => initCode t.initStep) = some 0x10 := by decide
theorem test_symStart :
    (after (.symStart 5) State.reset).map (fun t => (t.len, bufRead t 0, t.lastRxMs)) =
      some (1, some 0x68, 5) := by decide
theorem test_symIgnore :
    after (.symIgnore 0x10 5) State.reset =
      some { State.reset with lastRxMs := 5, feeds := [.idle] } := by decide

/-- S1: the sixth byte completes a frame of length 0, in the steady state. -/
theorem test_symData_ready :
    outputs (.symData 0x16 5) { holding [0x68, 0, 0, 0x68, 0] with initStep := .steady } =
      some [.err .unknownTelegramShape 0, .noData 0xFF] := by decide

/-- S10: MAX_L = 64. -/
theorem test_symData_too_long :
    outputs (.symData 0x41 5) { holding [0x68] with cfg := { standardConfig with maxL := 64 } } =
      some [.err .frameTooLong 0x41, .noData 0xFF] := by decide
theorem test_frameToolong :
    (after .frameToolong
      { holding [0x68, 0x41] with cfg := { standardConfig with maxL := 64 } }).map
        (fun t => (t.len, t.errLast, t.feeds)) = some (0, 5, [.frameTooLong]) := by decide
theorem test_frameReady :
    (after .frameReady (holding [0x68, 0, 0, 0x68, 0, 0x16])).map
      (fun t => (t.len, t.out, t.feeds)) = some (0, [.initReply], [.frameReady]) := by decide

/-- V6: length is checked before stop. -/
theorem test_complete_order :
    outputs .complete (holding [0x68, 3, 4, 0x68, 8, 0, 0x70, 0x78, 0x17]) =
      some [.err .badLength 4, .noData 0xFF] := by decide

/-- S2 during initialization. -/
theorem test_complete_valid :
    (after .complete (holding [0x68, 3, 3, 0x68, 8, 0, 0x70, 0x78, 0x16])).map
      (fun t => (t.out, t.initStep, t.len)) = some ([.initReply], .idleAcked, 0) := by decide

/-- V1 and V5. -/
theorem test_validate :
    returned (.validate [0x68, 3, 3, 0x68, 8, 0, 0x70, 0x78, 0x16]) State.reset =
      some (.payload [8, 0, 0x70]) ∧
    returned (.validate [0x68, 3, 3, 0x68, 8, 0, 0x70, 0x79, 0x16]) State.reset =
      some (.failed .badChecksum 0x78) := by decide

/-- V2 and V10. -/
theorem test_chkStart :
    returned (.chkStart [0x68, 3, 3, 0x69, 8, 0, 0x70, 0x78, 0x16]) State.reset =
      some (.failed .badStart 0x69) ∧
    returned (.chkStart [0x69, 3, 3, 0x68, 8, 0, 0x70, 0x78, 0x16]) State.reset =
      some (.failed .badStart 0x69) := by decide

/-- V3. -/
theorem test_chkLength :
    returned (.chkLength [0x68, 3, 4, 0x68, 8, 0, 0x70, 0x78, 0x16]) State.reset =
      some (.failed .badLength 4) := by decide

/-- V4. -/
theorem test_chkStop :
    returned (.chkStop [0x68, 3, 3, 0x68, 8, 0, 0x70, 0x78, 0x17]) State.reset =
      some (.failed .badStop 0x17) := by decide

/-- V9. -/
theorem test_chkSum :
    returned (.chkSum [0x68, 3, 3, 0x68, 0x72, 8, 0x70, 0xEA, 0x16]) State.reset =
      some .passed := by decide

/-- The CS8 table of part 2.2. -/
theorem test_cs8 :
    returned (.cs8 [0x53, 0xFE, 0x51, 0x0F, 0, 0, 4, 0x5C]) State.reset = some (.byte 0x11) ∧
    cs8 req4Payload = 0xD4 := by decide +kernel

/-- D22, and an answer during initialization. -/
theorem test_classify :
    outputs (.classify [8] false) State.reset =
      some [.err .unknownTelegramShape 8, .noData 0xFF] ∧
    outputs (.classify [8] true) State.reset = some [.initReply] := by decide

/-- D4: one record, then a coding without a value. -/
theorem test_decode_aborts :
    outputs (.decode [8, 0x72, 3, 0x3B, 0xD0, 7, 0, 0x0C, 0x13, 0x78, 0x56, 0x34, 0x12]) State.reset =
      some [.record .flow 2000 (-3), .err .unsupportedWidth 0x0C, .noData 0xF7] := by decide

/-- D2 and D9: a status record; a DIFE and a VIFE. -/
theorem test_decode_done :
    outputs (.decode [8, 0x72, 1, 0xFD, 0x17, 0x81]) State.reset =
      some [.record .status (-127) 0, .telegramDone 0x80] ∧
    outputs (.decode [8, 0x72, 0x84, 0x40, 0x83, 0x3C, 0xD2, 4, 0, 0]) State.reset =
      some [.record .energy 1234 0, .telegramDone 1] := by decide

/-- R222: a field of two bytes, and D7's field that runs off the end. -/
theorem test_readfield :
    returned (.readfield [0, 0x84, 0x40] 1) State.reset = some (.field ⟨1, 0x84, 2⟩) ∧
    returned (.readfield [0, 0x84] 1) State.reset = some .truncated := by decide

/-- D11 and D13. -/
theorem test_record :
    returned (.record [8, 0x72, 2, 0x61, 0x0C, 0xFE] 2) State.reset =
      some (.record .tDiff (-500) (-2) 6) ∧
    returned (.record [8, 0x72, 4, 0x6D, 1, 2] 2) State.reset =
      some (.abort .truncatedRecord 2) := by decide

/-- D12. -/
theorem test_qclass :
    returned (.qclass ⟨0, 0xFD, 2⟩ [0xFD, 0x17]) State.reset = some (.quantity .status 0) ∧
    returned (.qclass ⟨0, 0xFD, 2⟩ [0xFD, 0x18]) State.reset = some .other := by decide

/-- The table of codings of part 2.3. -/
theorem test_dif_aborts :
    returned (.difC0 false 0) State.reset = some (.abort .unsupportedWidth 0x00) ∧
    returned (.difC5 true 0) State.reset = some (.abort .unsupportedWidth 0x85) ∧
    returned (.difC6 false 7) State.reset = some (.abort .unsupportedWidth 0x76) ∧
    returned (.difC7 false 0) State.reset = some (.abort .unsupportedWidth 0x07) ∧
    returned (.difC8 false 0) State.reset = some (.abort .unsupportedWidth 0x08) ∧
    returned (.difC9 false 0) State.reset = some (.abort .unsupportedWidth 0x09) ∧
    returned (.difCA false 0) State.reset = some (.abort .unsupportedWidth 0x0A) ∧
    returned (.difCB false 0) State.reset = some (.abort .unsupportedWidth 0x0B) ∧
    returned (.difCC false 0) State.reset = some (.abort .unsupportedWidth 0x0C) ∧
    returned (.difCD false 0) State.reset = some (.abort .unsupportedWidth 0x0D) ∧
    returned (.difCE false 0) State.reset = some (.abort .unsupportedWidth 0x0E) ∧
    returned (.difCF false 2) State.reset = some (.abort .unsupportedWidth 0x2F) := by decide

/-- The sign-extension table of part 2.3. -/
theorem test_dif_values :
    returned (.difInt8 false 0 2 [0x80]) State.reset = some (.value (-128)) ∧
    returned (.difInt16 false 0 2 [0xFF, 0x7F, 0]) State.reset = some (.value 32767) ∧
    returned (.difInt24 false 0 2 [0, 0, 0x80]) State.reset = some (.value (-8388608)) ∧
    returned (.difInt32 false 0 2 [0xFF, 0xFF, 0xFF, 0x7F]) State.reset =
      some (.value 2147483647) := by decide

/-- The exponents of part 2.3. -/
theorem test_vif_classes :
    outputs (.vifEnergy false 7 1) State.reset = some [.record .energy 1 4] ∧
    outputs (.vifVolume true 0 1) State.reset = some [.record .volume 1 (-6)] ∧
    outputs (.vifPower false 3 1) State.reset = some [.record .power 1 0] ∧
    outputs (.vifFlow false 7 1) State.reset = some [.record .flow 1 1] ∧
    outputs (.vifTflow false 2 653) State.reset = some [.record .tFlow 653 (-1)] ∧
    outputs (.vifTreturn false 2 603) State.reset = some [.record .tReturn 603 (-1)] ∧
    outputs (.vifTdiff false 1 500) State.reset = some [.record .tDiff 500 (-2)] ∧
    outputs (.vifStatus 129) State.reset = some [.record .status 129 0] ∧
    returned (.vifOther 0xFD) State.reset = some (.abort .unrecognizedQuantity 0xFD) := by decide

/-- T5 of part 1.2, under decision D26. -/
theorem test_status_flags :
    statusFlags standardConfig.statusBit 0x81 = [.sensor1CableBreak, .lowBattery] ∧
    statusFlags standardConfig.statusBit 0x00 = [] := by decide

/-- T6 of part 1.2: 501 ms with no silence offset. -/
theorem test_supervise :
    outputs (.supervise 501) steadyState = some [.err .linkTimeout 0, .noData 0xFF] ∧
    outputs (.supervise 500) steadyState = some [] := by decide

/-- The timeout of REQ4, across the wrap of the time base. -/
theorem test_tmoLink_wraps :
    outputs (.tmoLink 1000)
      { steadyState with silenceMs := 572, lastRxMs := 0xFFFFFF00, lastTxMs := 0xFFFFFFB7 } =
        some [.err .linkTimeout 0, .noData 0xFF] ∧
    outputs (.tmoLink 999)
      { steadyState with silenceMs := 572, lastRxMs := 0xFFFFFF00, lastTxMs := 0xFFFFFFB7 } = some [] := by
  decide +kernel

/-- Q1 E3 and E4. -/
theorem test_tmoGap :
    (after (.tmoGap 25) { State.reset with initStep := .idleAcked, lastRxMs := 5 }).map
      State.sendTrigger = some true ∧
    (after (.tmoGap 24) { State.reset with initStep := .idleAcked, lastRxMs := 5 }).map
      State.sendTrigger = some false := by decide

/-- The SILENCE table of part 2.4. -/
theorem test_silence :
    (after (.silence 125) State.reset).map State.silenceMs = some 572 ∧
    (after (.silence 1) State.reset).map State.silenceMs = some 4 ∧
    (after (.silence 223) State.reset).map State.silenceMs = some 1022 := by decide

/-- R291: the figure for 261 bytes, which is no value of the 10-bit register (C13). -/
theorem test_silence_beyond : silenceFor 261 = 1196 ∧ silenceFor 224 = 1026 := by decide
theorem test_requests :
    returned .req1 State.reset = some (.frame req1Frame) ∧
    returned .req2 State.reset = some (.frame req2Frame) ∧
    returned .req3 State.reset = some (.frame req3Frame) ∧
    returned .req5 State.reset = some (.frame req5Frame) ∧
    (req4Frame.length, req4Frame.getD 123 0) = (125, 0xD4) := by decide +kernel
theorem test_req4 : returned .req4 State.reset = some (.frame req4Frame) := by decide +kernel

/-- The poll frames of part 2.5. -/
theorem test_pollframe :
    (pollFrame 0x20 true).drop 20 = [0x0B, 0x62, 0x16] ∧
    returned (.pollframe false) State.reset = some (.frame (pollFrame 0x20 false)) := by decide
theorem test_pollbuild :
    (after .pollbuild State.reset).map State.fcb = some true ∧
    returned .pollbuild State.reset = some (.frame (pollFrame 0x20 true)) := by decide

/-- The SEND table of part 2.5: the last advance. -/
theorem test_send :
    (after (.send 9) { State.reset with initStep := .step5Acked }).map
      (fun t => (initCode t.initStep, t.fcb, t.silenceMs, t.lastTxMs, t.out)) =
        some (0xFF, true, 105, 9, [.tx (pollFrame 0x20 true)]) := by decide
theorem test_tx : outputs (.tx [0xE5]) State.reset = some [.tx [0xE5]] := by decide

/-- R366. -/
theorem test_raise :
    (after (.raise .unsupportedWidth 0x0C 0xF7) State.reset).map (fun t => (t.errLast, t.out)) =
      some (6, [.err .unsupportedWidth 0x0C, .noData 0xF7]) := by decide

/-! ### Witnesses: states and operands that meet the hypotheses of each statement -/

theorem read_cells (bs : List Byte) : ∀ k i,
    Memory.read (cells k bs) i = if i < k then none else bs[i - k]? := by
  induction bs with
  | nil => intro k i; simp [cells, Memory.read]
  | cons b bs ih =>
    intro k i
    simp only [cells, Memory.read, ih]
    by_cases h : i = k
    · simp [h]
    · by_cases h' : i < k
      · simp [h, h', Nat.lt_succ_of_lt h']
      · have : i - k = (i - (k + 1)) + 1 := by omega
        simp [h, h', show ¬ i < k + 1 by omega, this]

/-- The invariant for a state that holds a concrete partial frame. -/
theorem inv_of_cells (bs : List Byte) (s : State) (hb : s.buf = cells 0 bs) (hl : s.len = bs.length)
    (hwf : Memory.wf s.buf = true) (h0 : ∀ b ∈ bs[0]?, b = startByte)
    (h1 : ∀ d ∈ bs[1]?, d.toNat ≤ s.cfg.maxL.toNat ∧ bs.length < d.toNat + 6)
    (hq : acked s.initStep = true → s.replyPending = false) (hk : s.errLast.toNat ≤ 10) : Inv s where
  canonical := hwf
  exact i := by rw [hb, hl, read_cells]; simp
  startsWithMarker h := by
    rw [hl] at h
    have hx : bs[0]? = some bs[0] := List.getElem?_eq_getElem h
    rw [hb, read_cells, if_neg (by omega), hx, h0 bs[0] hx]
  incomplete d _ hr := by
    rw [hb, read_cells, if_neg (by omega)] at hr
    rw [hl]
    exact h1 d hr
  quiet := hq
  knownError := hk

/-- A partial frame of length 0 that lacks its last byte, and a tick that brings it. -/
def lastByteDue : State :=
  { holding [0x68, 0, 0, 0x68, 0] with inputs := [encode (.tick 5 [0x16])], replyPending := true }

theorem lastByteDue_inv : Inv lastByteDue :=
  inv_of_cells [0x68, 0, 0, 0x68, 0] _ rfl rfl (by decide) (by decide) (by decide) (by decide)
    (by decide)

/-- Hunting, a reply pending since time 0, a poll and the last error kept. -/
def waiting : State :=
  { State.reset with replyPending := true, sendTrigger := true, silenceMs := 64, errLast := 10 }

theorem waiting_inv : Inv waiting :=
  inv_of_cells [] _ rfl rfl (by decide) (by decide) (by decide) (by decide) (by decide)

theorem witness_StepRunsDecodedInput :
    (presented (encode .poll)).inputs = encode .poll :: [] ∧
    decodeInput (presented (encode .poll)).cfg.ackWindowLen 0 (encode .poll) = .ok .poll := ⟨rfl, rfl⟩

theorem witness_StepWithoutOperation :
    State.reset.inputs = [] ∧ (presented ⟨.ev, [4]⟩).inputs = ⟨.ev, [4]⟩ :: [] ∧
    decodeInput (presented ⟨.ev, [4]⟩).cfg.ackWindowLen 0 ⟨.ev, [4]⟩ = .error .eventPort :=
  ⟨rfl, rfl, rfl⟩

theorem witness_DecodeEncodeAgree :
    (wellFormed (.symAck 0) = true ∧ symSelected 4 3 (.symAck 0)) ∧
    (wellFormed (.symStart 0) = true ∧ symSelected 4 0 (.symStart 0)) ∧
    (wellFormed (.symIgnore 0 0) = true ∧ symSelected 4 0 (.symIgnore 0 0)) ∧
    (wellFormed (.symData 0xE5 0) = true ∧ symSelected 4 4 (.symData 0xE5 0)) ∧
    (wellFormed (.silence 65535) = true ∧ symSelected 4 0 (.silence 65535)) ∧
    wellFormed (.validate [0x68, 0, 0, 0x68, 0, 0x16]) = true := by decide

theorem witness_EncodeDecodeAgree :
    decodeInput 4 0 ⟨.sym, [0x68, 1, 0, 0, 0]⟩ = .ok (.symStart 1) ∧
    decodeInput 4 0 ⟨.micro, [51, 0xFF, 0xFF]⟩ = .ok (.silence 65535) := ⟨rfl, rfl⟩

theorem witness_DecodedIsWellFormed :
    1 ≤ 1 ∧ decodeInput 1 1 ⟨.sym, [0xE5, 1, 0, 0, 0]⟩ = .ok (.symData 0xE5 1) ∧
    decodeInput 1 0 ⟨.sym, [0x16, 1, 0, 0, 0]⟩ = .ok (.symIgnore 0x16 1) := ⟨by decide, rfl, rfl⟩

theorem witness_StepKeepsInv : Inv lastByteDue ∧ stepsOn lastByteDue := ⟨lastByteDue_inv, _, rfl⟩

theorem witness_EventStepsNeverStop : Inv lastByteDue ∧ eventPending lastByteDue :=
  ⟨lastByteDue_inv, encode (.tick 5 [0x16]), [], .tick 5 [0x16], rfl, rfl, rfl⟩

/-- A step that is not RESET: its input decodes to something else. -/
theorem not_resetPending {s : State} {x : Input} {i : Instr} (hs : s.inputs = [x])
    (hi : inputInstr s x = .ok i) (hr : i ≠ .reset) : ¬ resetPending s := by
  rintro ⟨y, rest, hy, h⟩
  rw [hs] at hy
  cases hy
  rw [hi] at h
  exact hr (Except.ok.inj h)

/-- The steady state with a send due. -/
def pollDue : State := { steadyState with replyPending := false, inputs := [encode (.tick 9 [])],
                                          sendTrigger := true }

theorem witness_SteadyStateIsPermanent :
    pollDue.initStep = .steady ∧ ¬ resetPending pollDue ∧ stepsOn pollDue :=
  ⟨rfl, not_resetPending (x := encode (.tick 9 [])) rfl (i := .tick 9 []) rfl (by decide), _, rfl⟩

/-- An acknowledged last step with its gap passed: the step to the steady state. -/
def lastAdvance : State := { State.reset with initStep := .step5Acked,
                                              inputs := [encode (.tick 20 [])] }

theorem witness_HandshakeFollowsTheChain :
    ¬ resetPending lastAdvance ∧ stepsOn lastAdvance ∧ stepNumber lastAdvance.initStep = 5 ∧
    (∃ t, step lastAdvance = .next t ∧ t.initStep = .steady) ∧
    ¬ resetPending (presented (encode (.symAck 1))) ∧
    ∃ t, step (presented (encode (.symAck 1))) = .next t ∧ t.initStep = .idleAcked :=
  ⟨not_resetPending (x := encode (.tick 20 [])) rfl (i := .tick 20 []) rfl (by decide), ⟨_, rfl⟩, rfl,
    ⟨_, rfl, rfl⟩,
    not_resetPending (x := encode (.symAck 1)) rfl (i := .symAck 1) rfl (by decide), ⟨_, rfl, rfl⟩⟩

/-- A tick at which the receive timeout strikes and the request is sent again. -/
def timeoutDue : State := { waiting with inputs := [encode (.tick 565 [])] }

theorem witness_LastErrorIsRecorded :
    timeoutDue.inputs ≠ [] ∧ ¬ resetPending timeoutDue ∧
    ∃ t, step timeoutDue = .next t ∧ lastError t.out = some .linkTimeout :=
  ⟨by decide, not_resetPending (x := encode (.tick 565 [])) rfl (i := .tick 565 []) rfl (by decide),
    _, rfl, rfl⟩

theorem witness_EveryErrorIsAnswered :
    timeoutDue.inputs ≠ [] ∧ ∃ t, step timeoutDue = .next t ∧ t.out.length = 3 :=
  ⟨by decide, _, rfl, rfl⟩

theorem witness_StepConsumesOneInput : stepsOn timeoutDue ∧ stepsOn State.reset :=
  ⟨⟨_, rfl⟩, ⟨_, rfl⟩⟩

theorem witness_SilenceStaysInRange :
    eventPending pollDue ∧ pollDue.silenceMs ∈ silenceValues ∧
    ∃ t, step pollDue = .next t ∧ t.silenceMs = 105 :=
  ⟨⟨encode (.tick 9 []), [], .tick 9 [], rfl, rfl, rfl⟩, by decide, _, rfl, by decide +kernel⟩

/-- Both cases of the tick after a POLL: no reply pending, and one pending. -/
theorem witness_PollResult :
    (∃ u v, exec (.supervise 9) pollDue = .next u ∧ feedsAll 9 [] u v ∧ v.replyPending = false ∧
      pollDue = { pollDue with sendTrigger := true }) ∧
    ∃ u v, exec (.supervise 9) waiting = .next u ∧ feedsAll 9 [0x16] u v ∧ v.replyPending = true ∧
      waiting = { waiting with sendTrigger := true } :=
  ⟨⟨_, _, rfl, rfl, rfl, rfl⟩, _, _, rfl, ⟨_, rfl, rfl⟩, rfl, rfl⟩

theorem witness_TickRunsThreePhases :
    ∃ u v, exec (.supervise 5) lastByteDue = .next u ∧ feedsAll 5 [0x16] u v ∧ v.len = 0 :=
  ⟨_, _, rfl, ⟨_, rfl, rfl⟩, rfl⟩

theorem witness_TickCompletes : Inv lastByteDue ∧ Inv waiting := ⟨lastByteDue_inv, waiting_inv⟩

theorem witness_TickSendsAtMostOnce :
    (∃ t, exec (.tick 9 []) pollDue = .next t ∧ txCount t.out = 1) ∧
    ∃ t, exec (.tick 564 []) waiting = .next t ∧ txCount t.out = 0 := ⟨⟨_, rfl, rfl⟩, ⟨_, rfl, rfl⟩⟩

/-- The receive timeout at the first tick past 564 ms; a steady state that sends again; the gap at
20 ms. -/
theorem witness_ScheduledResendIsServed :
    Inv waiting ∧ waiting.replyPending = true ∧
    500 + waiting.silenceMs.toNat < min (565 - waiting.lastRxMs).toNat (565 - waiting.lastTxMs).toNat ∧
    waiting.initStep ≠ .steady ∧ acked lastAdvance.initStep = true ∧
    20 ≤ (20 - lastAdvance.lastRxMs).toNat ∧ Inv lastAdvance :=
  ⟨waiting_inv, rfl, by decide, by decide, rfl, by decide,
    inv_of_cells [] _ rfl rfl (by decide) (by decide) (by decide) (by decide) (by decide)⟩

theorem witness_RxByteResult :
    Inv lastByteDue ∧ symClass 4 lastByteDue.len 0x16 = .data ∧ Inv waiting ∧
    symClass 4 waiting.len 0x68 = .start := ⟨lastByteDue_inv, by decide, waiting_inv, by decide⟩

theorem witness_SymAckResult : (holding [0x68, 5, 5]).len < State.reset.cfg.ackWindowLen := by decide

theorem witness_SymStartIgnoreResult :
    State.reset.len = 0 ∧ (0x16 : Byte) ≠ 0x68 ∧ (0x16 : Byte) ≠ 0xE5 := by decide

/-- One witness for each of the three outcomes: too long at the second byte, ready at the sixth, and
neither at the second. -/
theorem witness_SymDataResult :
    (∃ s, Inv s ∧ s.len = 1 ∧ s.cfg.maxL.toNat < (0x41 : Byte).toNat) ∧
    (Inv lastByteDue ∧ lastByteDue.len = 5 ∧ Memory.read lastByteDue.buf 1 = some 0) ∧
    ∃ s, Inv s ∧ s.len = 1 ∧ ¬ s.cfg.maxL.toNat < (0xFF : Byte).toNat :=
  ⟨⟨{ holding [0x68] with cfg := { standardConfig with maxL := 0x40 } },
      inv_of_cells [0x68] _ rfl rfl (by decide) (by decide) (by decide) (by decide) (by decide),
      rfl, by decide⟩,
    ⟨lastByteDue_inv, rfl, rfl⟩,
    ⟨holding [0x68],
      inv_of_cells [0x68] _ rfl rfl (by decide) (by decide) (by decide) (by decide) (by decide),
      rfl, by decide⟩⟩

theorem witness_ConditionalRowsDoNothing :
    standardConfig.ackWindowLen ≤ (holding [0x68, 1, 1, 0x68]).len ∧ (holding [0x68]).len ≠ 0 ∧
    State.reset.len < 2 ∧
    (Memory.read (holding [0x68, 0xFF]).buf 1 = some 0xFF ∧
      ¬ ((holding [0x68, 0xFF]).len = 2 ∧ standardConfig.maxL.toNat < (0xFF : Byte).toNat) ∧
      ¬ (4 < (holding [0x68, 0xFF]).len ∧ (holding [0x68, 0xFF]).len = (0xFF : Byte).toNat + 6)) := by
  decide

theorem witness_FrameTooLongResult :
    (holding [0x68, 0x41]).len = 2 ∧ Memory.read (holding [0x68, 0x41]).buf 1 = some 0x41 ∧
    ({ standardConfig with maxL := 0x40 } : Config).maxL.toNat < (0x41 : Byte).toNat := by decide

theorem witness_CompleteResult :
    6 ≤ [0x68, 0, 0, 0x68, 0, (0x16 : Byte)].length ∧
    validateFrame [0x68, 0, 0, 0x68, 0, 0x16] = .ok [] ∧
    validateFrame [0x68, 0, 0, 0x68, 1, 0x16] = .err .badChecksum 0 ∧
    (∀ i, i < (holding [0x68, 0, 0, 0x68, 0, 0x16]).len →
      Memory.read (holding [0x68, 0, 0, 0x68, 0, 0x16]).buf i =
        [0x68, 0, 0, 0x68, 0, (0x16 : Byte)][i]?) := by decide

theorem witness_FrameReadyResult :
    [0x68, 0, 0, 0x68, 0, (0x16 : Byte)][1]? = some 0 ∧
    4 < (holding [0x68, 0, 0, 0x68, 0, 0x16]).len ∧
    (holding [0x68, 0, 0, 0x68, 0, 0x16]).len = (0 : Byte).toNat + 6 := by decide

/-- The shortest and the longest frame. -/
theorem witness_CompletionLaw :
    State.reset.len = 0 ∧ standardConfig.legal ∧
    ((0 : Byte).toNat ≤ standardConfig.maxL.toNat ∧ (0 : Byte) ≠ 0xE5 ∧
      [0, 0x68, 0, (0x16 : Byte)].length = (0 : Byte).toNat + 4 ∧
      ∀ b ∈ [0, 0x68, 0, (0x16 : Byte)].take 2, b ≠ 0xE5) ∧
    (0xFF : Byte).toNat ≤ standardConfig.maxL.toNat ∧
    (List.replicate 259 (0xFF : Byte)).length = (0xFF : Byte).toNat + 4 ∧
    ∀ b ∈ (List.replicate 259 (0xFF : Byte)).take 2, b ≠ 0xE5 := by decide +kernel

theorem witness_LongFrameIsDelivered :
    State.reset.len = 0 ∧ standardConfig.legal ∧ ([] : List Byte).length ≤ standardConfig.maxL.toNat ∧
    ([] : List Byte).length ≠ 0xE5 ∧
    (List.replicate 255 (0 : Byte)).length ≤ standardConfig.maxL.toNat := by decide +kernel

theorem witness_ValidateAcceptsLongFrames :
    6 ≤ (longFrame []).length ∧ (longFrame []).length = ((longFrame []).getD 1 0).toNat + 6 ∧
    longFrame [] = [0x68, 0, 0, 0x68, 0, 0x16] := by decide

/-- V6, which fails two checks, with the flags and bytes the statement names. -/
theorem witness_ValidatorResults :
    ∃ f : List Byte, f = [0x68, 3, 4, 0x68, 8, 0, 0x70, 0x78, 0x17] ∧ 6 ≤ f.length ∧
      false = (f.getD 0 0 != 0x68 || f.getD 3 0 != 0x68) ∧
      (0x68 : Byte) = (if f.getD 0 0 = 0x68 then f.getD 3 0 else f.getD 0 0) ∧
      true = (f.getD 1 0 != f.getD 2 0) ∧ true = (f.getD (f.length - 1) 0 != 0x16) ∧
      (0x78 : Byte) = BitVec.ofNat 8 (byteSum ((f.drop 4).take (f.length - 6))) ∧
      false = ((0x78 : Byte) != f.getD (f.length - 2) 0) := ⟨_, rfl, by decide⟩

/-- V1, its first payload byte and its checksum byte. -/
theorem witness_SingleByteFlipIsRejected :
    validateFrame [0x68, 3, 3, 0x68, 8, 0, 0x70, 0x78, 0x16] = .ok [8, 0, 0x70] ∧
    (4 ≤ 4 ∧ 4 + 3 ≤ 9 ∧ (9 : Byte) ≠ [0x68, 3, 3, 0x68, 8, 0, 0x70, 0x78, 0x16].getD 4 0) ∧
    (6 + 3 ≤ 9) ∧ (0x79 : Byte) ≠ [0x68, 3, 3, 0x68, 8, 0, 0x70, 0x78, 0x16].getD 7 0 := by decide

theorem witness_OutOfContractFaults :
    [0x68, 0, 0, 0x68, (0 : Byte)].length < 6 ∧
    ((holding [0x68, 0, 0, 0x68, 0]).len < 6 ∧ ∀ i, i < (holding [0x68, 0, 0, 0x68, 0]).len →
      Memory.read (holding [0x68, 0, 0, 0x68, 0]).buf i ≠ none) ∧
    (0 < ({ State.reset with len := 1 } : State).len ∧
      Memory.read ({ State.reset with len := 1 } : State).buf 0 = none) ∧
    standardConfig.legal ∧
    standardConfig.maxL.toNat + 6 ≤ ({ State.reset with len := 261 } : State).len := by decide

/-- D1 is a data telegram; D22 is one byte too short for the signature. -/
theorem witness_ClassifyResult :
    (standardConfig.recStart ≤ [8, (0x72 : Byte)].length ∧
      ∀ q ∈ standardConfig.dataSig, q.1 < [8, (0x72 : Byte)].length ∧
        [8, (0x72 : Byte)][q.1]? = some q.2) ∧
    ¬ (standardConfig.recStart ≤ [(8 : Byte)].length ∧
      ∀ q ∈ standardConfig.dataSig, q.1 < [(8 : Byte)].length ∧
        [(8 : Byte)][q.1]? = some q.2) := by decide

theorem witness_ReadFieldResult :
    isField [0x84, 0x40] ∧ [0x84, (0x40 : Byte)][0]? = some 0x84 ∧
    ∀ b ∈ [0, 0x84, (0xFF : Byte)].drop 1, b.msb = true :=
  ⟨⟨[0x84], 0x40, rfl, by decide, by decide⟩, rfl, by decide⟩

theorem isField_single (b : Byte) (h : b.msb = false) : isField [b] := ⟨[], b, rfl, by simp, h⟩

theorem isField_marker : isField [0xFD, 0x17] := ⟨[0xFD], 0x17, rfl, by decide, by decide⟩

/-- D2's status record of one byte, and D9's energy value of four. -/
theorem witness_RecordResult :
    (isField [0x01] ∧ isField [0xFD, 0x17] ∧ hasStatusMarker [0xFD, 0x17] ∧
      ((0x01 : Byte) &&& 0x0F).toNat = [(0x81 : Byte)].length) ∧
    (isField [0x04] ∧ isField [0x03] ∧ ¬ hasStatusMarker [0x03] ∧
      tableClass standardConfig.vifTable 0x03 = some (.energy, 0) ∧
      ((0x04 : Byte) &&& 0x0F).toNat = [0xD2, 4, 0, (0 : Byte)].length) :=
  ⟨⟨isField_single _ (by decide), isField_marker, by decide, by decide⟩,
    isField_single _ (by decide), isField_single _ (by decide), by decide, by decide, by decide⟩

/-- D7, D8, D4's coding C, D6's three bytes where four are needed, D5's unknown quantity. -/
theorem witness_RecordAborts :
    (∀ b ∈ [(0x84 : Byte)], b.msb = true) ∧ (isField [0x04] ∧ ∀ b ∈ [(0x83 : Byte)], b.msb = true) ∧
    4 < ((0x0C : Byte) &&& 0x0F).toNat ∧
    (1 ≤ ((0x04 : Byte) &&& 0x0F).toNat ∧ ((0x04 : Byte) &&& 0x0F).toNat ≤ 4 ∧
      [0xD2, 4, (0 : Byte)].length < ((0x04 : Byte) &&& 0x0F).toNat) ∧
    (isField [0x6D] ∧ ((0x02 : Byte) &&& 0x0F).toNat ≤ [0, (0 : Byte)].length ∧
      ¬ hasStatusMarker [0x6D] ∧ tableClass standardConfig.vifTable 0x6D = none) :=
  ⟨by decide, ⟨isField_single _ (by decide), by decide⟩, by decide, by decide,
    isField_single _ (by decide), by decide, by decide, by decide⟩

/-- The marker; the second row; no row. -/
theorem witness_QclassResult :
    ((0xFD : Byte) = 0xFD ∧ 2 ≤ 2 ∧ [0xFD, (0x17 : Byte)][0 + 1]? = some 0x17) ∧
    (standardConfig.vifTable = [energyRow] ++ volumeRow :: [powerRow, flowRow, tFlowRow, tReturnRow,
        tDiffRow] ∧
      (∀ r ∈ [energyRow], (0x13 : Byte) &&& 0x7F &&& r.mask ≠ r.pattern) ∧
      (0x13 : Byte) &&& 0x7F &&& volumeRow.mask = volumeRow.pattern) ∧
    ∀ r ∈ standardConfig.vifTable, (0xFD : Byte) &&& 0x7F &&& r.mask ≠ r.pattern := by decide

theorem witness_DifAbortResult : ∃ aborts : BitVec 4 → Result, ∀ k, aborts k =
    .next { State.reset with
      res := .abort .unsupportedWidth (BitVec.ofBool true ++ (0b101 : BitVec 3) ++ k) } :=
  ⟨_, fun _ => rfl⟩

theorem witness_VifResult : ∃ reports : Tag → Int → Result, ∀ tag exp10, reports tag exp10 =
    .next { State.reset with res := .quantity tag exp10, out := [] ++ [.record tag 7 exp10] } :=
  ⟨_, fun _ _ => rfl⟩

theorem witness_DifIntegerResult :
    (0x80 : Byte).toNat + 256 * (0xFF : Byte).toNat = 65408 ∧ ([] : List Byte).length < 1 ∧
    [(1 : Byte)].length < 2 ∧ [1, (2 : Byte)].length < 3 ∧ [1, 2, (3 : Byte)].length < 4 := by decide

theorem witness_StatusFlagsOfFirstByte :
    [0, 0, (0 : Byte)].length ≤ 3 ∧ standardConfig.statusBit[7]? = some .lowBattery := by decide

/-- 565 ms and 564 ms after a request; 20 ms and 19 ms after an acknowledgment. -/
theorem witness_SuperviseResult :
    (waiting.replyPending = true ∧ 500 + waiting.silenceMs.toNat < min 565 565) ∧
    ¬ 500 + waiting.silenceMs.toNat < min 564 564 ∧
    (initCode lastAdvance.initStep ≠ 0xFF ∧ initCode lastAdvance.initStep &&& 0x10 ≠ 0 ∧ 20 ≤ 20) ∧
    ¬ 20 ≤ 19 ∧ 565 = ((565 : Time).toNat + 2 ^ 32 - waiting.lastRxMs.toNat) % 2 ^ 32 := by decide

/-- The last length whose value fits, and the first whose value does not. -/
theorem witness_SilenceResult :
    (223 ≤ 223 ∧ 223 * 11000 / 2400 < 1024) ∧ 224 ≤ 224 ∧ 1024 ≤ 224 * 11000 / 2400 := by decide

theorem witness_SendResult :
    (∃ sends : InitStep → List Byte → BitVec 10 → Bool → State, ∀ i f ms toggled, sends i f ms toggled =
      { State.reset with sendTrigger := false, initStep := i, fcb := toggled, replyPending := true,
                         lastTxMs := 7, silenceMs := ms, out := [] ++ [.tx f] }) ∧
    State.reset.initStep = .idle ∧
    ({ State.reset with initStep := .step1Acked } : State).initStep = .step1Acked ∧
    ({ State.reset with initStep := .step2Acked } : State).initStep = .step2Acked ∧
    ({ State.reset with initStep := .step3Acked } : State).initStep = .step3Acked ∧
    ({ State.reset with initStep := .step4Acked } : State).initStep = .step4Acked ∧
    lastAdvance.initStep = .step5Acked ∧ pollDue.initStep = .steady :=
  ⟨⟨_, fun _ _ _ _ => rfl⟩, by decide⟩

theorem witness_RequestFramesResult :
    State.reset.cfg.fcbMask = 0x20 ∧ (0x73 : Byte) = (0x53 ||| State.reset.cfg.fcbMask) ∧
    ∃ leaves : List Byte → Result, ∀ f, leaves f = .next { State.reset with res := .frame f } :=
  ⟨rfl, rfl, _, fun _ => rfl⟩

theorem witness_PollbuildResult : (0x73 : Byte) =
    (if State.reset.fcb then 0x53 else 0x53 ||| State.reset.cfg.fcbMask) := by decide

end Sys2Proof.Tests
end

section
/-! PROOFS. Where the model stops outside the operands' contracts (log 7, log 9; R12, R21, R68, R200):
a frame operation on too few bytes, an unreadable candidate frame, an append to a full buffer. -/

namespace Sys2Proof.Proofs

open Sys2Proof.Machine

/-! ### The operations, in terms of the shared ones -/

theorem exec_validate (f : List Byte) (s : State) :
    exec (.validate f) s = onFrame f (validatedResult (validateFrame f)) s := rfl

theorem exec_chkStart (f : List Byte) (s : State) :
    exec (.chkStart f) s = onFrame f (checkResult .badStart (startCheck f)) s := rfl

theorem exec_chkLength (f : List Byte) (s : State) :
    exec (.chkLength f) s = onFrame f (checkResult .badLength (lengthCheck f)) s := rfl

theorem exec_chkStop (f : List Byte) (s : State) :
    exec (.chkStop f) s = onFrame f (checkResult .badStop (stopCheck f)) s := rfl

theorem exec_chkSum (f : List Byte) (s : State) :
    exec (.chkSum f) s = onFrame f (checkResult .badChecksum (sumCheck f)) s := rfl

theorem exec_complete (s : State) : exec .complete s = completeOp s := rfl

/-- SYM.DATA on a byte of its class is the synchronizer's own operation (R176). -/
theorem exec_symData_of_class {b : Byte} {now : Time} {s : State}
    (h : symClass s.cfg.ackWindowLen s.len b = .data) :
    exec (.symData b now) s = symDataOp b now s := if_pos h

/-! ### A frame of fewer than 6 bytes -/

theorem onFrame_of_short {f : List Byte} (found : MicroResult) (s : State) (h : f.length < 6) :
    onFrame f found s = .fault .frameTooShort := if_pos h

/-! ### The candidate frame -/

/-- A range with a byte that is not held cannot be read. -/
theorem readRange_eq_none {m : Memory} {i k j : Nat} (hj : j < k)
    (h : Memory.read m (i + j) = none) : Memory.readRange m i k = none := by
  rw [Option.eq_none_iff_forall_ne_some]
  intro bs hbs
  have hget : bs[j]? = none := (Memory.readRange_get hbs j hj).trans h
  have hlen : bs.length = k := Memory.readRange_length hbs
  rw [List.getElem?_eq_none_iff] at hget
  omega

theorem candidate_eq_none {s : State} {i : Nat} (hi : i < s.len)
    (h : Memory.read s.buf i = none) : candidate s = none :=
  readRange_eq_none hi (by simpa using h)

/-- When every byte below `len` is held, the candidate frame is read and has `len` bytes (R21). -/
theorem candidate_of_held {s : State} (h : ∀ i, i < s.len → Memory.read s.buf i ≠ none) :
    ∃ f, candidate s = some f ∧ f.length = s.len := by
  have hread : (Memory.readRange s.buf 0 s.len).isSome = true :=
    Memory.readRange_isSome fun j hj => by simpa [Option.isSome_iff_ne_none] using h j hj
  obtain ⟨f, hf⟩ := Option.isSome_iff_exists.mp hread
  exact ⟨f, hf, Memory.readRange_length hf⟩

theorem completeOp_of_candidate_none {s : State} (h : candidate s = none) :
    completeOp s = .fault .bufferUnreadable := by
  simp only [completeOp, h]

theorem completeOp_of_short {s : State} {f : List Byte} (hf : candidate s = some f)
    (h : f.length < 6) : completeOp s = .fault .frameTooShort := by
  simp only [completeOp, hf, if_pos h]

/-! ### An append to a full buffer -/

@[simp] theorem andThen_of_fault (e : Fault) (k : State → Result) :
    andThen (.fault e) k = .fault e := rfl

theorem bufAppend_of_full (b : Byte) {s : State} (h : bufCap s.cfg ≤ s.len) :
    bufAppend b s = .fault .bufferFull := if_neg (Nat.not_lt.mpr h)

theorem symDataOp_of_full (b : Byte) (now : Time) {s : State} (h : bufCap s.cfg ≤ s.len) :
    symDataOp b now s = .fault .bufferFull := by
  have happend : bufAppend b (noteRx now s) = .fault .bufferFull := bufAppend_of_full b h
  rw [symDataOp, happend, andThen_of_fault]

/-- At the end of the acknowledgment window and past it, every byte of a frame begun is data (R92). -/
theorem symClass_eq_data {window len : Nat} (b : Byte) (hlen : len ≠ 0) (hw : window ≤ len) :
    symClass window len b = .data := by
  have hack : ¬ (b = ackByte ∧ len < window) := fun ⟨_, hlt⟩ => Nat.not_lt.mpr hw hlt
  rw [symClass, if_neg hack, if_neg hlen]

/-- A full buffer holds at least 6 bytes, more than a legal acknowledgment window, so that every byte
is data there. -/
theorem symClass_of_full (b : Byte) {s : State} (hcfg : s.cfg.legal) (h : bufCap s.cfg ≤ s.len) :
    symClass s.cfg.ackWindowLen s.len b = .data := by
  obtain ⟨_, hwindow⟩ := hcfg
  have hsix : 6 ≤ s.len := (Nat.le_add_left 6 _).trans h
  exact symClass_eq_data b (by omega) (by omega)

/-- Settles O38: each stop is its operation's guard, and the guard is reached since a byte that is not
held makes the candidate unreadable and a full buffer takes every byte as data. -/
theorem outOfContractFaults : Obligations.OutOfContractFaults := by
  refine ⟨fun f s hshort => ?frameChecks, fun s hshort hheld => ?completeShort,
    fun i s hi hnone => ?completeUnreadable, fun b now s hcfg hfull => ?appendFull⟩
  case frameChecks =>
    simp only [exec_validate, exec_chkStart, exec_chkLength, exec_chkStop, exec_chkSum,
      onFrame_of_short _ s hshort, and_self]
  case completeShort =>
    obtain ⟨f, hf, hlen⟩ := candidate_of_held hheld
    rw [exec_complete, completeOp_of_short hf (hlen.trans_lt hshort)]
  case completeUnreadable =>
    rw [exec_complete, completeOp_of_candidate_none (candidate_eq_none hi hnone)]
  case appendFull =>
    rw [exec_symData_of_class (symClass_of_full b hcfg hfull), symDataOp_of_full b now hfull]

end Sys2Proof.Proofs
end

section
/-! PROOFS. What every step keeps (10_state.md R21 to R24, R31, R38, R39, R54; R314, R366). Each
operation other than RESET is a chain of effects and then at most one SEND; a property is shown for
each effect and for SEND, and follows for the step. -/

namespace Sys2Proof.Proofs

open Sys2Proof.Machine

/-! ### The effects that operations are made of -/

/-- One part of an operation, before it may send. -/
inductive Effect (s : State) : State → Prop
  /-- Events are put out with their errors recorded; `fcb`, the trigger, the silence offset and the
  result are written. -/
  | note (es : List OutputEvent) (fcb trigger : Bool) (offset : BitVec 10) (res : MicroResult)
      (answered : errThenNoData es = true) :
      Effect s { s with fcb := fcb, sendTrigger := trigger, silenceMs := offset, res := res,
                        errLast := recordedError s.errLast es, out := s.out ++ es }
  /-- The candidate frame is given up or handed on: the buffer is emptied, no reply is awaited. -/
  | close (es : List OutputEvent) (i : InitStep) (trigger : Bool) (feeds : List FeedResult)
      (answered : errThenNoData es = true) (init : i = s.initStep ∨ i = setAcked s.initStep) :
      Effect s { s with buf := [], len := 0, initStep := i, replyPending := false,
                        sendTrigger := trigger, errLast := recordedError s.errLast es,
                        out := s.out ++ es, feeds := feeds }
  /-- A received byte is taken (R172). -/
  | byte {t : State} (b : Byte) (now : Time) (taken : rxByte b now s = .next t) : Effect s t

/-- A chain of effects. -/
abbrev Effects : State → State → Prop := Relation.ReflTransGen Effect

/-- Effects, then at most one SEND. -/
def EffectsThenSend (s t : State) : Prop :=
  ∃ u, Effects s u ∧ (t = u ∨ ∃ now, t = sendOp now u)

theorem Effects.thenNoSend {s t : State} (h : Effects s t) : EffectsThenSend s t :=
  ⟨t, h, .inl rfl⟩

theorem Effects.flags (s : State) (fcb trigger : Bool) (offset : BitVec 10) (res : MicroResult) :
    Effects s { s with fcb := fcb, sendTrigger := trigger, silenceMs := offset, res := res } := by
  have h := Effect.note (s := s) [] fcb trigger offset res rfl
  rw [List.append_nil] at h
  exact .single h

theorem Effects.outputs (s : State) {es : List OutputEvent} (answered : errThenNoData es = true) :
    Effects s { s with errLast := recordedError s.errLast es, out := s.out ++ es } :=
  .single (.note es s.fcb s.sendTrigger s.silenceMs s.res answered)

/-! ### Operations that write no part of the buffer -/

theorem effects_setResult (r : MicroResult) (s : State) : Effects s (setResult r s) :=
  .flags s s.fcb s.sendTrigger s.silenceMs r

/-- An operation that only returns a value. -/
theorem effects_of_setResult {r : MicroResult} {s t : State}
    (h : (.next (setResult r s) : Result) = .next t) : Effects s t := by
  cases h
  exact effects_setResult r s

theorem effects_of_onFrame {f : List Byte} {r : MicroResult} {s t : State}
    (h : onFrame f r s = .next t) : Effects s t := by
  unfold onFrame at h
  split at h
  · cases h
  · exact effects_of_setResult h

theorem effects_of_reportQuantity {tag : Tag} {exp10 : Int} {raw : BitVec 32} {s t : State}
    (h : reportQuantity tag exp10 raw s = .next t) : Effects s t := by
  cases h
  exact (effects_setResult _ s).trans (Effects.outputs _ (es := [.record tag raw exp10]) rfl)

theorem effects_raiseError (code : ErrorCode) (info mask : Byte) (s : State) :
    Effects s (raiseError code info mask s) := by
  rw [raiseError_emits]
  exact .outputs s rfl

theorem effects_decodePayload (p : List Byte) (s : State) : Effects s (decodePayload p s) := by
  obtain ⟨es, heq, answered, _⟩ := decodeLoop_emits p.length p s.cfg.recStart 0 s
  rw [decodePayload, heq]
  exact .outputs s answered

theorem effects_classifyPayload (p : List Byte) (wasInit : Bool) (s : State) :
    Effects s (classifyPayload p wasInit s) := by
  obtain ⟨es, heq, answered, _⟩ := classifyPayload_emits p wasInit s
  rw [heq]
  exact .outputs s answered

theorem effects_setTrigger (s : State) : Effects s (setTrigger s) :=
  .flags s s.fcb true s.silenceMs s.res

/-! ### The supervisor -/

theorem effects_tmoLink (now : Time) (s : State) : Effects s (tmoLink now s) := by
  obtain ⟨_, heq⟩ | ⟨_, heq⟩ := tmoLink_cases now s
  · rw [heq]
  · rw [heq, linkTimeout_eq]
    exact .single (.close [.err .linkTimeout 0, .noData 0xFF] s.initStep _ s.feeds rfl (.inl rfl))

theorem effects_tmoGap (now : Time) (s : State) : Effects s (tmoGap now s) := by
  obtain ⟨_, heq⟩ | ⟨_, heq⟩ := tmoGap_cases now s
  · rw [heq]
  · rw [heq]
    exact effects_setTrigger s

theorem effects_supervise (now : Time) (s : State) : Effects s (supervise now s) :=
  (effects_tmoLink now s).trans (effects_tmoGap now _)

/-! ### Received bytes and frames -/

theorem effects_of_drain {now : Time} {rx : List Byte} {s t : State}
    (h : drain now rx s = .next t) : Effects s t := by
  induction rx generalizing s with
  | nil =>
    cases h
    exact .refl
  | cons b rx ih =>
    obtain ⟨u, hbyte, hrest⟩ := andThen_next.mp h
    exact .head (.byte b now hbyte) (ih hrest)

/-- A SYM row run alone takes its byte as RXBYTE does, or does nothing. -/
theorem effects_of_symRow {b : Byte} {now : Time} {c : SymClass} {r : Result} {s t : State}
    (hr : symClass s.cfg.ackWindowLen s.len b = c → rxByte b now s = r)
    (h : (if symClass s.cfg.ackWindowLen s.len b = c then r else .next s) = .next t) :
    Effects s t := by
  split at h
  · rename_i hc
    exact .single (.byte b now ((hr hc).trans h))
  · cases h
    exact .refl

/-- A complete frame closes the candidate, whatever feed results stand beside it. -/
theorem effect_completeFrame (f : List Byte) (fs : List FeedResult) (s : State) :
    Effect s { completeFrame f s with feeds := fs } := by
  obtain ⟨i, es, hi, heq, answered, _⟩ := completeFrame_emits f s
  rw [heq]
  exact .close es i s.sendTrigger fs answered hi

theorem effects_of_completeOp {s t : State} (h : completeOp s = .next t) : Effects s t := by
  obtain ⟨f, _, _, rfl⟩ := completeOp_next h
  exact .single (effect_completeFrame f (completeFrame f s).feeds s)

theorem effects_of_frameReadyOp {s t : State} (h : frameReadyOp s = .next t) : Effects s t := by
  obtain ⟨f, _, _, rfl⟩ := frameReadyOp_next h
  exact .single (effect_completeFrame f _ s)

theorem effects_frameTooLongOp (declared : Byte) (s : State) :
    Effects s (frameTooLongOp declared s) := by
  rw [frameTooLongOp, raiseError_emits]
  exact .single (.close [.err .frameTooLong declared, .noData 0xFF] s.initStep s.sendTrigger _ rfl
    (.inl rfl))

theorem effects_of_execFrameToolong {s t : State} (h : execFrameToolong s = .next t) :
    Effects s t := by
  unfold execFrameToolong at h
  split at h
  · cases h
    exact .refl
  · split at h
    · cases h
    · split at h <;> cases h
      · exact effects_frameTooLongOp _ s
      · exact .refl

theorem effects_of_execFrameReady {s t : State} (h : execFrameReady s = .next t) :
    Effects s t := by
  unfold execFrameReady at h
  split at h
  · cases h
    exact .refl
  · split at h
    · cases h
    · split at h
      · exact effects_of_frameReadyOp h
      · cases h
        exact .refl

/-! ### Every operation, and the step -/

theorem effectsThenSend_of_execTick {now : Time} {rx : List Byte} {s t : State}
    (h : execTick now rx s = .next t) : EffectsThenSend s t := by
  obtain ⟨u, hdrain, rfl⟩ := execTick_next h
  refine ⟨u, (effects_supervise now s).trans (effects_of_drain hdrain), ?_⟩
  obtain ⟨_, _, heq⟩ | ⟨_, heq⟩ := sendIfDue_cases now u
  · exact .inr ⟨now, heq⟩
  · exact .inl heq

/-- Every operation but RESET is effects and then at most one SEND. -/
theorem effectsThenSend_of_exec {i : Instr} {s t : State} (hi : i ≠ .reset)
    (h : exec i s = .next t) : EffectsThenSend s t := by
  cases i with
  | reset => exact absurd rfl hi
  | tick now rx => exact effectsThenSend_of_execTick h
  | send now =>
    cases h
    exact ⟨s, .refl, .inr ⟨now, rfl⟩⟩
  | poll =>
    cases h
    exact (effects_setTrigger s).thenNoSend
  | evReserved =>
    cases h
    exact Effects.thenNoSend .refl
  | rxbyte b now => exact Effects.thenNoSend (.single (.byte b now h))
  | symAck | symStart | symIgnore | symData =>
    exact (effects_of_symRow (fun hc => by rw [rxByte, hc]) h).thenNoSend
  | frameToolong => exact (effects_of_execFrameToolong h).thenNoSend
  | frameReady => exact (effects_of_execFrameReady h).thenNoSend
  | complete => exact (effects_of_completeOp h).thenNoSend
  | validate | chkStart | chkLength | chkStop | chkSum => exact (effects_of_onFrame h).thenNoSend
  | classify payload wasInit =>
    cases h
    exact (effects_classifyPayload payload wasInit s).thenNoSend
  | decode payload =>
    cases h
    exact (effects_decodePayload payload s).thenNoSend
  | cs8 | readfield | record | qclass | difC0 | difInt8 | difInt16 | difInt24 | difInt32 | difC5
  | difC6 | difC7 | difC8 | difC9 | difCA | difCB | difCC | difCD | difCE | difCF | vifOther
  | req1 | req2 | req3 | req4 | req5 | pollframe =>
    exact (effects_of_setResult h).thenNoSend
  | vifEnergy | vifVolume | vifPower | vifFlow | vifTflow | vifTreturn | vifTdiff | vifStatus =>
    exact (effects_of_reportQuantity h).thenNoSend
  | supervise now =>
    cases h
    exact (effects_supervise now s).thenNoSend
  | tmoLink now =>
    cases h
    exact (effects_tmoLink now s).thenNoSend
  | tmoGap now =>
    cases h
    exact (effects_tmoGap now s).thenNoSend
  | silence n =>
    cases h
    exact (Effects.flags s s.fcb s.sendTrigger (silenceRegister n) s.res).thenNoSend
  | pollbuild =>
    cases h
    exact (Effects.flags s (!s.fcb) s.sendTrigger s.silenceMs (.frame (builtPoll s))).thenNoSend
  | tx f =>
    cases h
    exact (Effects.outputs s (es := [.tx f]) rfl).thenNoSend
  | raise code info mask =>
    cases h
    exact (effects_raiseError code info mask s).thenNoSend

/-- What a step can do: hold the state, reset the registers, or run effects and at most one SEND. -/
theorem step_effects {s t : State} (h : step s = .next t) :
    (s.inputs = [] ∧ t = s) ∨ (resetPending s ∧ t = resetRegisters (beginInput s)) ∨
      EffectsThenSend (beginInput s) t := by
  obtain hheld | ⟨x, rest, i, hs, hdec, hexec⟩ := step_next h
  · exact .inl hheld
  · by_cases hi : i = .reset
    · subst hi
      cases hexec
      exact .inr (.inl ⟨⟨x, rest, hs, hdec⟩, rfl⟩)
    · exact .inr (.inr (effectsThenSend_of_exec hi hexec))

/-! ### The frame buffer's part of the invariant -/

/-- The clauses of the invariant about the buffer (R21, R23, R24). -/
structure FrameInv (maxL : Byte) (m : Memory) (len : Nat) : Prop where
  canonical : Memory.wf m = true
  exact : ∀ i, (Memory.read m i).isSome = true ↔ i < len
  startsWithMarker : 1 ≤ len → Memory.read m 0 = some startByte
  incomplete : ∀ declared, 2 ≤ len → Memory.read m 1 = some declared →
    declared.toNat ≤ maxL.toNat ∧ len < declared.toNat + 6

theorem inv_iff (s : State) :
    Inv s ↔ FrameInv s.cfg.maxL s.buf s.len ∧ (acked s.initStep = true → s.replyPending = false) ∧
      s.errLast.toNat ≤ 10 :=
  ⟨fun ⟨hwf, hexact, hstart, hinc, hquiet, herr⟩ => ⟨⟨hwf, hexact, hstart, hinc⟩, hquiet, herr⟩,
    fun ⟨⟨hwf, hexact, hstart, hinc⟩, hquiet, herr⟩ => ⟨hwf, hexact, hstart, hinc, hquiet, herr⟩⟩

theorem FrameInv.empty (maxL : Byte) : FrameInv maxL [] 0 where
  canonical := rfl
  exact i := by simp [Memory.read]
  startsWithMarker h := absurd h (by omega)
  incomplete _ h := absurd h (by omega)

/-- Which indices a memory holds after a write at `len`, when it held those below. -/
theorem isSome_read_write {m : Memory} {len : Nat} (b : Byte)
    (h : ∀ i, (Memory.read m i).isSome = true ↔ i < len) (i : Nat) :
    (Memory.read (Memory.write m len b) i).isSome = true ↔ i < len + 1 := by
  by_cases hi : i = len
  · subst hi
    simp [Memory.read_write_same]
  · rw [Memory.read_write_other _ _ _ _ hi, h]
    omega

theorem FrameInv.start {maxL : Byte} {m : Memory} (h : FrameInv maxL m 0) :
    FrameInv maxL (Memory.write m 0 startByte) 1 where
  canonical := Memory.wf_write _ _ _ h.canonical
  exact := isSome_read_write startByte h.exact
  startsWithMarker _ := Memory.read_write_same _ _ _
  incomplete _ h := absurd h (by omega)

/-- An append that passes both tests keeps the frame neither too long nor complete (R176 to R178). -/
theorem FrameInv.append {maxL b declared : Byte} {m : Memory} {len : Nat} (h : FrameInv maxL m len)
    (hlen : len ≠ 0) (hd : Memory.read (Memory.write m len b) 1 = some declared)
    (hlong : ¬ (len + 1 = 2 ∧ maxL.toNat < declared.toNat))
    (hready : ¬ (4 < len + 1 ∧ len + 1 = declared.toNat + 6)) :
    FrameInv maxL (Memory.write m len b) (len + 1) where
  canonical := Memory.wf_write _ _ _ h.canonical
  exact := isSome_read_write b h.exact
  startsWithMarker _ := by
    rw [Memory.read_write_other _ _ _ _ hlen.symm]
    exact h.startsWithMarker (by omega)
  incomplete d _ hread := by
    obtain rfl : declared = d := Option.some.inj (hd.symm.trans hread)
    by_cases hone : len = 1
    · omega
    · rw [Memory.read_write_other _ _ _ _ (Ne.symm hone)] at hd
      obtain ⟨_, _⟩ := h.incomplete declared (by omega) hd
      omega

/-! ### The invariant -/

theorem acked_afterSend (i : InitStep) : acked (afterSend i) = false := by
  cases i <;> rfl

theorem inv_of_rxByte {b : Byte} {now : Time} {s t : State} (hs : Inv s)
    (h : rxByte b now s = .next t) : Inv t := by
  obtain ⟨hframe, hquiet, herr⟩ := (inv_iff s).mp hs
  obtain ⟨r, es, i, ht, _, _, hi, hreply, hbuf⟩ := rxByte_shape h
  have hcfg : t.cfg = s.cfg := by rw [ht]
  have hinit : t.initStep = i := by rw [ht]
  have herrLast : t.errLast = recordedError s.errLast es := by rw [ht]
  rw [inv_iff, hcfg, hinit, herrLast]
  refine ⟨?frame, ?quiet, recordedError_le _ _ herr⟩
  case frame =>
    obtain ⟨hb, hl, _⟩ | ⟨hs0, hl, hb, _⟩ | ⟨hs0, hb, hl, _⟩ |
      ⟨hb, hl, hs0, _, _, d, hd, hlong, hready⟩ := hbuf
    · rw [hb, hl]
      exact .empty _
    · rw [hb, hl, ← hs0]
      exact hframe
    · rw [hb, hl]
      exact (hs0 ▸ hframe).start
    · rw [hb] at hd ⊢
      rw [hl] at hlong hready ⊢
      exact hframe.append hs0 hd hlong hready
  case quiet =>
    obtain hsame | ⟨_, hclear⟩ := hi
    · intro hacked
      obtain hclear | hkept := hreply
      · exact hclear
      · exact hkept.trans (hquiet (hsame ▸ hacked))
    · exact fun _ => hclear

theorem inv_of_effect {s t : State} (hs : Inv s) (h : Effect s t) : Inv t := by
  obtain ⟨hframe, hquiet, herr⟩ := (inv_iff s).mp hs
  cases h with
  | note es => exact (inv_iff _).mpr ⟨hframe, hquiet, recordedError_le _ es herr⟩
  | close es =>
    exact (inv_iff _).mpr ⟨.empty _, fun _ => rfl, recordedError_le _ es herr⟩
  | byte b now taken => exact inv_of_rxByte hs taken

theorem inv_of_effects {s t : State} (hs : Inv s) (h : Effects s t) : Inv t := by
  induction h with
  | refl => exact hs
  | tail _ hlast ih => exact inv_of_effect ih hlast

/-- SEND expects a reply, and leaves no step acknowledged (R314). -/
theorem inv_sendOp (now : Time) {s : State} (hs : Inv s) : Inv (sendOp now s) := by
  obtain ⟨hframe, _, herr⟩ := (inv_iff s).mp hs
  rw [sendOp_eq, inv_iff]
  exact ⟨hframe, fun hacked => absurd hacked (by simp [acked_afterSend]), herr⟩

theorem inv_beginInput {s : State} (hs : Inv s) : Inv (beginInput s) :=
  (inv_iff _).mpr ((inv_iff s).mp hs)

theorem inv_resetRegisters (s : State) : Inv (resetRegisters s) :=
  (inv_iff _).mpr ⟨.empty _, fun _ => rfl, Nat.zero_le _⟩

/-- Settles O9: RESET establishes the invariant, every effect keeps it, and so does SEND. -/
theorem stepKeepsInv : Obligations.StepKeepsInv := by
  intro s t hs h
  obtain ⟨_, rfl⟩ | ⟨_, rfl⟩ | ⟨u, heffects, hsend⟩ := step_effects h
  · exact hs
  · exact inv_resetRegisters _
  · have hu : Inv u := inv_of_effects (inv_beginInput hs) heffects
    obtain rfl | ⟨now, rfl⟩ := hsend
    · exact hu
    · exact inv_sendOp now hu

/-- Settles O8: the buffer is empty, nothing is acknowledged, and no error is recorded. -/
theorem invAtReset : Obligations.InvAtReset :=
  (inv_iff _).mpr ⟨.empty _, fun _ => rfl, Nat.zero_le _⟩

/-- Settles O7: R55's values and R8's parameters, read off the reset state. -/
theorem resetValues : Obligations.ResetValues := by
  have hunreadable : ∀ i, bufRead State.reset i = none := fun i => if_neg (Nat.not_lt_zero i)
  exact ⟨rfl, rfl, rfl, rfl, rfl, rfl, rfl, rfl, rfl, hunreadable,
    rfl, rfl, rfl, rfl, rfl, rfl, rfl, rfl⟩

/-! ### The handshake chain -/

theorem setAcked_idem (i : InitStep) : setAcked (setAcked i) = setAcked i := by
  cases i <;> rfl

theorem initCode_setAcked (i : InitStep) : initCode (setAcked i) = initCode i ||| 0x10 := by
  cases i <;> rfl

theorem stepNumber_setAcked (i : InitStep) : stepNumber (setAcked i) = stepNumber i := by
  cases i <;> rfl

/-- SEND repeats a step, goes on to the next with the bit clear, or ends the handshake (R320). -/
theorem afterSend_cases (i : InitStep) :
    afterSend i = i ∨
    (stepNumber (afterSend i) = stepNumber i + 1 ∧ stepNumber (afterSend i) ≤ 5) ∨
    (stepNumber i = 5 ∧ afterSend i = .steady) := by
  cases i <;> decide

theorem initStep_of_effect {s t : State} (h : Effect s t) :
    t.initStep = s.initStep ∨ t.initStep = setAcked s.initStep := by
  cases h with
  | note => exact .inl rfl
  | close _ _ _ _ _ init => exact init
  | byte b now taken =>
    obtain ⟨_, _, i, ht, _, _, hi, _⟩ := rxByte_shape taken
    have hinit : t.initStep = i := by rw [ht]
    rw [hinit]
    exact hi.imp_right And.left

theorem initStep_of_effects {s t : State} (h : Effects s t) :
    t.initStep = s.initStep ∨ t.initStep = setAcked s.initStep := by
  induction h with
  | refl => exact .inl rfl
  | tail _ hlast ih =>
    obtain heq | heq := initStep_of_effect hlast
    · rwa [heq]
    · obtain ih | ih := ih
      · exact .inr (by rw [heq, ih])
      · exact .inr (by rw [heq, ih, setAcked_idem])

theorem stepNumber_of_effects {s t : State} (h : Effects s t) :
    stepNumber t.initStep = stepNumber s.initStep := by
  obtain heq | heq := initStep_of_effects h
  · rw [heq]
  · rw [heq, stepNumber_setAcked]

theorem sendOp_initStep (now : Time) (s : State) :
    (sendOp now s).initStep = afterSend s.initStep := by
  rw [sendOp_eq]

/-- Settles O12: effects at most set the acknowledged bit, which keeps the step number, and SEND moves
on by one step from there. -/
theorem handshakeFollowsTheChain : Obligations.HandshakeFollowsTheChain := by
  intro s t hreset h
  obtain ⟨_, rfl⟩ | ⟨hpending, _⟩ | ⟨u, heffects, hsend⟩ := step_effects h
  · exact .inl rfl
  · exact absurd hpending hreset
  have hu : u.initStep = s.initStep ∨ initCode u.initStep = initCode s.initStep ||| 0x10 :=
    (initStep_of_effects heffects).imp_right fun heq => by
      rw [heq, beginInput_initStep, initCode_setAcked]
  have hnumber := stepNumber_of_effects heffects
  rw [beginInput_initStep] at hnumber
  obtain rfl | ⟨now, rfl⟩ := hsend
  · exact hu.imp_right .inl
  · rw [sendOp_initStep]
    obtain hsame | ⟨hnext, hle⟩ | ⟨hfive, hsteady⟩ := afterSend_cases u.initStep
    · rw [hsame]
      exact hu.imp_right .inl
    · exact .inr (.inr (.inl ⟨hnumber ▸ hnext, hle, acked_afterSend _⟩))
    · exact .inr (.inr (.inr ⟨hnumber ▸ hfive, hsteady⟩))

/-! ### The outputs of a step -/

/-- From `s` to `t` outputs are added, each ERR with its NODATA, and the last ERR is recorded. -/
def Logs (s t : State) : Prop :=
  ∃ es, t.out = s.out ++ es ∧ t.errLast = recordedError s.errLast es ∧ errThenNoData es = true

theorem Logs.refl (s : State) : Logs s s := ⟨[], (List.append_nil _).symm, rfl, rfl⟩

theorem Logs.trans {s t u : State} : Logs s t → Logs t u → Logs s u
  | ⟨es, hout, herr, hes⟩, ⟨es', hout', herr', hes'⟩ =>
    ⟨es ++ es', by rw [hout', hout, List.append_assoc],
      by rw [herr', herr, recordedError_append], errThenNoData_append hes hes'⟩

theorem logs_of_effect {s t : State} (h : Effect s t) : Logs s t := by
  cases h with
  | note es _ _ _ _ answered => exact ⟨es, rfl, rfl, answered⟩
  | close es _ _ _ answered => exact ⟨es, rfl, rfl, answered⟩
  | byte b now taken =>
    obtain ⟨_, es, _, ht, answered, _⟩ := rxByte_shape taken
    exact ⟨es, by rw [ht], by rw [ht], answered⟩

theorem logs_of_effects {s t : State} (h : Effects s t) : Logs s t := by
  induction h with
  | refl => exact .refl s
  | tail _ hlast ih => exact ih.trans (logs_of_effect hlast)

theorem logs_sendOp (now : Time) (s : State) : Logs s (sendOp now s) :=
  ⟨[.tx (sendFrame s)], by rw [sendOp_eq], by rw [sendOp_eq]; rfl, rfl⟩

theorem logs_of_effectsThenSend {s t : State} : EffectsThenSend s t → Logs s t := by
  rintro ⟨u, heffects, rfl | ⟨now, rfl⟩⟩
  · exact logs_of_effects heffects
  · exact (logs_of_effects heffects).trans (logs_sendOp now u)

/-- Settles O13: every effect and SEND records the last error of what it puts out. -/
theorem lastErrorIsRecorded : Obligations.LastErrorIsRecorded := by
  intro s t hinputs hreset h
  obtain ⟨hnone, _⟩ | ⟨hpending, _⟩ | hrun := step_effects h
  · exact absurd hnone hinputs
  · exact absurd hpending hreset
  · obtain ⟨es, hout, herr, _⟩ := logs_of_effectsThenSend hrun
    have hes : t.out = es := hout
    rw [hes, herr, beginInput_errLast]

/-- Settles O14: every effect and SEND puts out its errors with their NODATA, and RESET puts out
nothing. -/
theorem everyErrorIsAnswered : Obligations.EveryErrorIsAnswered := by
  intro s t hinputs h
  obtain ⟨hnone, _⟩ | ⟨_, rfl⟩ | hrun := step_effects h
  · exact absurd hnone hinputs
  · rfl
  · obtain ⟨es, hout, _, answered⟩ := logs_of_effectsThenSend hrun
    have hes : t.out = es := hout
    rw [hes]
    exact answered

/-! ### The silence offset under the events -/

/-- The operations of the event port (R91). -/
theorem decodeEv_ok {bs : List Byte} {i : Instr} (h : decodeEv bs = .ok i) :
    i = .reset ∨ i = .poll ∨ i = .evReserved ∨ ∃ now rx, i = .tick now rx := by
  unfold decodeEv at h
  split at h
  · cases h
  · split at h
    · cases h; exact .inl rfl
    · cases h; exact .inr (.inl rfl)
    · cases h; exact .inr (.inr (.inr ⟨_, _, rfl⟩))
    · cases h; exact .inr (.inr (.inl rfl))
    · split at h <;> cases h

theorem pollFrame_length (fcbMask : Byte) (fcb : Bool) : (pollFrame fcbMask fcb).length = 23 := by
  cases fcb <;> simp [pollFrame, pollRom]

theorem req4Frame_length : req4Frame.length = 125 := by
  simp [req4Frame, req4Payload]

/-- The lengths of the six frames of the ROM (R301 to R306). -/
theorem sendFrame_length (s : State) : (sendFrame s).length ∈ [14, 15, 125, 23] := by
  unfold sendFrame
  cases s.initStep with
  | idle | idleAcked | step1 | step1Acked | step2 | step2Acked | step3 | step4Acked | step5 =>
    dsimp only
    decide
  | step3Acked | step4 =>
    dsimp only
    rw [req4Frame_length]
    decide
  | step5Acked | steady =>
    dsimp only
    rw [builtPoll, pollFrame_length]
    decide

theorem silenceRegister_mem {n : Nat} (h : n ∈ [14, 15, 125, 23]) :
    silenceRegister n ∈ silenceValues := by
  fin_cases h <;> decide

theorem supervise_silenceMs (now : Time) (s : State) :
    (supervise now s).silenceMs = s.silenceMs := by
  obtain ⟨_, _, heq, _⟩ := supervise_shape now s
  rw [heq]

theorem drain_silenceMs {now : Time} {rx : List Byte} {s t : State}
    (h : drain now rx s = .next t) : t.silenceMs = s.silenceMs := by
  obtain ⟨_, _, _, heq, _⟩ := drain_shape h
  rw [heq]

theorem sendIfDue_silenceMs (now : Time) (s : State) :
    (sendIfDue now s).silenceMs = s.silenceMs ∨ (sendIfDue now s).silenceMs ∈ silenceValues := by
  obtain ⟨_, _, heq⟩ | ⟨_, heq⟩ := sendIfDue_cases now s
  · rw [heq, sendOp_eq]
    exact .inr (silenceRegister_mem (sendFrame_length s))
  · exact .inl (by rw [heq])

theorem execTick_silenceMs {now : Time} {rx : List Byte} {s t : State}
    (h : execTick now rx s = .next t) :
    t.silenceMs = s.silenceMs ∨ t.silenceMs ∈ silenceValues := by
  obtain ⟨u, hdrain, rfl⟩ := execTick_next h
  have hu : u.silenceMs = s.silenceMs := (drain_silenceMs hdrain).trans (supervise_silenceMs now s)
  rw [← hu]
  exact sendIfDue_silenceMs now u

/-- A step that goes on with a decoded input runs its operation. -/
theorem exec_of_step {s t : State} {x : Input} {rest : List Input} {i : Instr}
    (hs : s.inputs = x :: rest) (hdec : inputInstr s x = .ok i) (h : step s = .next t) :
    exec i (beginInput s) = .next t := by
  obtain ⟨hnone, _⟩ | ⟨x', rest', i', hs', hdec', hexec⟩ := step_next h
  · exact absurd (hs.symm.trans hnone) (List.cons_ne_nil x rest)
  · obtain ⟨rfl, rfl⟩ := List.cons.inj (hs.symm.trans hs')
    obtain rfl := Except.ok.inj (hdec.symm.trans hdec')
    exact hexec

/-- Settles O16: RESET writes 0, the other events leave the offset or send a frame of the ROM. -/
theorem silenceStaysInRange : Obligations.SilenceStaysInRange := by
  rintro s t ⟨x, rest, i, hs, hev, hdec⟩ hmem h
  have hevent : decodeEv x.bytes = .ok i := by
    rwa [inputInstr, decodeInput, hev] at hdec
  have hexec : exec i (beginInput s) = .next t := exec_of_step hs hdec h
  obtain rfl | rfl | rfl | ⟨now, rx, rfl⟩ := decodeEv_ok hevent
  · cases hexec
    exact List.mem_cons_self
  · cases hexec
    exact hmem
  · cases hexec
    exact hmem
  · obtain heq | hrom := execTick_silenceMs hexec
    · rw [heq]
      exact hmem
    · exact hrom

end Sys2Proof.Proofs
end

section
/-! PROOFS. Decoding and encoding agree (30_encoding.md R90 to R93, R102 to R104, R118, R119, R125; log
3, log 4). Each part of the decoder is characterised once, by what it answers and for which bytes; the
two round trips put the parts together. -/

namespace Sys2Proof.Proofs

open Sys2Proof.Machine

/-! ### Operand layouts -/

/-- Four bytes make a 32-bit number that is laid out as these bytes. -/
theorem le32_ofLe32 (b0 b1 b2 b3 : Byte) : le32 (ofLe32 b0 b1 b2 b3) = [b0, b1, b2, b3] := by
  have hbits : (ofLe32 b0 b1 b2 b3).extractLsb' 0 8 = b0 ∧
      (ofLe32 b0 b1 b2 b3).extractLsb' 8 8 = b1 ∧ (ofLe32 b0 b1 b2 b3).extractLsb' 16 8 = b2 ∧
      (ofLe32 b0 b1 b2 b3).extractLsb' 24 8 = b3 := by
    refine ⟨?_, ?_, ?_, ?_⟩ <;>
    · ext i hi
      simp only [ofLe32, BitVec.getElem_extractLsb', BitVec.getLsbD_append]
      grind
  obtain ⟨h0, h1, h2, h3⟩ := hbits
  rw [le32, h0, h1, h2, h3]

theorem checked_eq_ok {i j : Instr} : checked i = .ok j ↔ wellFormed i = true ∧ j = i := by
  by_cases h : wellFormed i = true
  · simp [checked, h, eq_comm]
  · simp [checked, h]

theorem noOperands_eq_ok {i j : Instr} {args : List Byte} :
    noOperands i args = .ok j ↔ args = [] ∧ j = i := by
  cases args <;> simp [noOperands, eq_comm]

theorem timeOperand_eq_ok {i : Time → Instr} {j : Instr} {args : List Byte} :
    timeOperand i args = .ok j ↔ ∃ t, args = le32 t ∧ j = i t := by
  constructor
  · intro h
    unfold timeOperand at h
    split at h
    · cases h
      exact ⟨_, (le32_ofLe32 ..).symm, rfl⟩
    · cases h
  · rintro ⟨t, rfl, rfl⟩
    simp only [le32, timeOperand, ofLe32_extract]

theorem decodeRxbyte_eq_ok {i : Instr} {args : List Byte} :
    decodeRxbyte args = .ok i ↔ ∃ b now, args = b :: le32 now ∧ i = .rxbyte b now := by
  constructor
  · intro h
    unfold decodeRxbyte at h
    split at h
    · cases h
      exact ⟨_, _, by rw [le32_ofLe32], rfl⟩
    · cases h
  · rintro ⟨b, now, rfl, rfl⟩
    simp only [le32, decodeRxbyte, ofLe32_extract]

theorem decodeClassify_eq_ok {i : Instr} {args : List Byte} :
    decodeClassify args = .ok i ↔
      ∃ p wasInit, args = (if wasInit then 1 else 0) :: p ∧ wellFormed (.classify p wasInit) = true ∧
        i = .classify p wasInit := by
  constructor
  · intro h
    unfold decodeClassify at h
    split at h
    · cases h
    · rename_i flag p
      split_ifs at h with h0 h1
      · exact ⟨p, false, by rw [h0]; rfl, checked_eq_ok.mp h⟩
      · exact ⟨p, true, by rw [h1]; rfl, checked_eq_ok.mp h⟩
  · rintro ⟨p, wasInit, rfl, hwf⟩
    cases wasInit <;> exact checked_eq_ok.mpr hwf

theorem offsetPayload_eq_ok {f : List Byte → Nat → Instr} {i : Instr} {args : List Byte} :
    offsetPayload f args = .ok i ↔
      ∃ c p, args = c :: p ∧ wellFormed (f p c.toNat) = true ∧ i = f p c.toNat := by
  cases args with
  | nil => simp [offsetPayload]
  | cons c p => simp [offsetPayload, checked_eq_ok]

theorem decodeQclass_eq_ok {i : Instr} {args : List Byte} :
    decodeQclass args = .ok i ↔
      ∃ (start length : Byte) (first : Byte) (p : List Byte),
        args = first :: start :: length :: p ∧
        wellFormed (.qclass ⟨start.toNat, first, length.toNat⟩ p) = true ∧
        i = .qclass ⟨start.toNat, first, length.toNat⟩ p := by
  constructor
  · intro h
    unfold decodeQclass at h
    split at h
    · exact ⟨_, _, _, _, rfl, checked_eq_ok.mp h⟩
    · cases h
  · rintro ⟨start, length, first, p, rfl, hwf⟩
    exact checked_eq_ok.mpr hwf

/-- The two bytes of SILENCE's operand name each number below 2^16 once. -/
theorem decodeSilence_eq_ok {i : Instr} {args : List Byte} :
    decodeSilence args = .ok i ↔
      ∃ n, n < 65536 ∧ args = [BitVec.ofNat 8 n, BitVec.ofNat 8 (n / 256)] ∧ i = .silence n := by
  constructor
  · intro h
    unfold decodeSilence at h
    split at h
    · rename_i n0 n1
      cases h
      refine ⟨_, by omega, ?_, rfl⟩
      have hlow : BitVec.ofNat 8 (n0.toNat + 256 * n1.toNat) = n0 := by
        apply BitVec.eq_of_toNat_eq
        simp only [BitVec.toNat_ofNat]
        omega
      have hhigh : BitVec.ofNat 8 ((n0.toNat + 256 * n1.toNat) / 256) = n1 := by
        apply BitVec.eq_of_toNat_eq
        simp only [BitVec.toNat_ofNat]
        omega
      rw [hlow, hhigh]
    · cases h
  · rintro ⟨n, hn, rfl, rfl⟩
    have hvalue : (BitVec.ofNat 8 n).toNat + 256 * (BitVec.ofNat 8 (n / 256)).toNat = n := by
      simp only [BitVec.toNat_ofNat]
      omega
    simp only [decodeSilence, hvalue]

/-- The codes of R360 name the ten errors, and no other number does. -/
theorem errorOfNumber_eq_some {n : Nat} {code : ErrorCode} :
    errorOfNumber n = some code ↔ n = errorNumber code := by
  constructor
  · intro h
    unfold errorOfNumber at h
    split at h <;> cases h <;> rfl
  · rintro rfl
    cases code <;> rfl

theorem decodeRaise_eq_ok {i : Instr} {args : List Byte} :
    decodeRaise args = .ok i ↔
      ∃ code info mask, args = [BitVec.ofNat 8 (errorNumber code), info, mask] ∧
        i = .raise code info mask := by
  constructor
  · intro h
    unfold decodeRaise at h
    split at h
    · split at h
      · rename_i hcode
        cases h
        refine ⟨_, _, _, ?_, rfl⟩
        rw [← errorOfNumber_eq_some.mp hcode, BitVec.ofNat_toNat, BitVec.setWidth_eq]
      · cases h
    · cases h
  · rintro ⟨code, info, mask, rfl, rfl⟩
    cases code <;> rfl

/-! ### The bits of a DIF byte and of a VIF byte -/

/-- A first DIF byte is made of its flag, its free bits and its coding (R102). -/
theorem difByte_of_bits : ∀ d0 : Byte,
    difByte d0.msb (d0.extractLsb' 4 3) (BitVec.ofNat 4 (codingOf d0)) = d0 := by
  decide

/-- The class that VIF_TABLE gives the bytes of each pattern (R118). -/
theorem tableClass_vifByte3 : ∀ (e : Bool) (n : BitVec 3),
    tableClass standardVifTable (vifByte3 e 0x0 n) = some (.energy, (n.toNat : Int) - 3) ∧
    tableClass standardVifTable (vifByte3 e 0x2 n) = some (.volume, (n.toNat : Int) - 6) ∧
    tableClass standardVifTable (vifByte3 e 0x5 n) = some (.power, (n.toNat : Int) - 3) ∧
    tableClass standardVifTable (vifByte3 e 0x7 n) = some (.flow, (n.toNat : Int) - 6) := by
  decide

theorem tableClass_vifByte2 : ∀ (e : Bool) (n : BitVec 2),
    tableClass standardVifTable (vifByte2 e 0x16 n) = some (.tFlow, (n.toNat : Int) - 3) ∧
    tableClass standardVifTable (vifByte2 e 0x17 n) = some (.tReturn, (n.toNat : Int) - 3) ∧
    tableClass standardVifTable (vifByte2 e 0x18 n) = some (.tDiff, (n.toNat : Int) - 3) := by
  decide

/-- The VIF byte of a class with the flag and the exponent bits of `v0` (R118). -/
def classByte (v0 : Byte) : Tag → Byte
  | .energy => vifByte3 v0.msb 0x0 (v0.extractLsb' 0 3)
  | .volume => vifByte3 v0.msb 0x2 (v0.extractLsb' 0 3)
  | .power => vifByte3 v0.msb 0x5 (v0.extractLsb' 0 3)
  | .flow => vifByte3 v0.msb 0x7 (v0.extractLsb' 0 3)
  | .tFlow => vifByte2 v0.msb 0x16 (v0.extractLsb' 0 2)
  | .tReturn => vifByte2 v0.msb 0x17 (v0.extractLsb' 0 2)
  | .tDiff => vifByte2 v0.msb 0x18 (v0.extractLsb' 0 2)
  | .status => v0

/-- A VIF byte of a class is made of its flag, the pattern of its class and its exponent bits. -/
theorem classByte_of_tableClass : ∀ v0 : Byte, ∀ c ∈ tableClass standardVifTable v0,
    classByte v0 c.1 = v0 := by
  decide

/-! ### The classes of a received byte (R92) -/

theorem symClass_eq_ack_iff {window len : Nat} {b : Byte} :
    symClass window len b = .ack ↔ b = ackByte ∧ len < window := by
  unfold symClass
  split_ifs <;> simp_all

theorem symClass_eq_start_iff {window len : Nat} {b : Byte} :
    symClass window len b = .start ↔ b = startByte ∧ len = 0 := by
  have hne : ackByte ≠ startByte := by decide
  unfold symClass
  split_ifs <;> simp_all

theorem symClass_eq_ignore_iff {window len : Nat} {b : Byte} :
    symClass window len b = .ignore ↔
      len = 0 ∧ b ≠ startByte ∧ ¬ (b = ackByte ∧ 0 < window) := by
  unfold symClass
  split_ifs <;> simp_all
  omega

theorem symClass_eq_data_iff {window len : Nat} {b : Byte} :
    symClass window len b = .data ↔ len ≠ 0 ∧ ¬ (b = ackByte ∧ len < window) := by
  unfold symClass
  split_ifs <;> simp_all

/-! ### What the decoder answers -/

/-- The operation `i` is named by the input `x`: its encoding is `x`, it is well formed, and a received
byte is in its class (R92). -/
def Names (window len : Nat) (x : Input) (i : Instr) : Prop :=
  encode i = x ∧ (1 ≤ window → wellFormed i = true ∧ symSelected window len i)

section

variable {window len : Nat} {bs : List Byte} {i : Instr}

/-- The port code of an event is its first byte (R91). -/
theorem names_of_decodeEv (h : decodeEv bs = .ok i) : Names window len ⟨.ev, bs⟩ i := by
  unfold decodeEv at h
  split at h
  · cases h
  · rename_i ev args
    have hbyte : BitVec.ofNat 8 ev.toNat = ev := BitVec.ofNat_toNat ..
    split at h
    case h_5 => split at h <;> cases h
    all_goals
      rename_i hport
      rw [hport] at hbyte
      subst hbyte
      cases h
      exact ⟨by simp [encode, le32_ofLe32], fun _ => ⟨rfl, trivial⟩⟩

theorem names_of_decodeSym (h : decodeSym window len bs = .ok i) :
    Names window len ⟨.sym, bs⟩ i := by
  unfold decodeSym at h
  split at h
  · cases h
  · rename_i b t0 t1 t2 t3
    simp only at h
    split at h <;> rename_i hclass <;> cases h
    · obtain ⟨rfl, _⟩ := symClass_eq_ack_iff.mp hclass
      exact ⟨by rw [encode, le32_ofLe32], fun _ => ⟨rfl, hclass⟩⟩
    · obtain ⟨rfl, _⟩ := symClass_eq_start_iff.mp hclass
      exact ⟨by rw [encode, le32_ofLe32], fun _ => ⟨rfl, hclass⟩⟩
    · obtain ⟨_, hstart, hack⟩ := symClass_eq_ignore_iff.mp hclass
      exact ⟨by rw [encode, le32_ofLe32],
        fun hw => ⟨decide_eq_true ⟨hstart, fun heq => hack ⟨heq, hw⟩⟩, hclass⟩⟩
    · exact ⟨by rw [encode, le32_ofLe32], fun _ => ⟨rfl, hclass⟩⟩
  · cases h

theorem names_of_decodeFrame (h : decodeFrame bs = .ok i) : Names window len ⟨.frame, bs⟩ i := by
  unfold decodeFrame at h
  split_ifs at h with hcontract
  cases h
  exact ⟨rfl, fun _ => ⟨decide_eq_true hcontract, trivial⟩⟩

theorem names_of_decodeDif (h : decodeDif bs = .ok i) : Names window len ⟨.dif, bs⟩ i := by
  unfold decodeDif at h
  split at h
  · cases h
  · rename_i d0 args
    have hd0 := difByte_of_bits d0
    simp only at h
    split at h <;> cases h
    all_goals
      rename_i hcoding
      rw [hcoding] at hd0
      refine ⟨?_, fun _ => ⟨?_, trivial⟩⟩
      · simpa [encode] using hd0
      · simp [wellFormed, BitVec.isLt _]

theorem names_of_decodeVifClass {v0 : Byte} {args : List Byte}
    (h : decodeVifClass v0 args = .ok i) : Names window len ⟨.vif, v0 :: args⟩ i := by
  have hv0 := classByte_of_tableClass v0
  unfold decodeVifClass at h
  simp only at h
  split at h <;> cases h
  case h_8 hother => exact ⟨rfl, fun _ => ⟨by rw [wellFormed, hother]; rfl, trivial⟩⟩
  all_goals
    rename_i hclass
    refine ⟨?_, fun _ => ⟨rfl, trivial⟩⟩
    simpa [encode, le32_ofLe32, classByte] using hv0 _ hclass

theorem names_of_decodeVif (h : decodeVif bs = .ok i) : Names window len ⟨.vif, bs⟩ i := by
  unfold decodeVif at h
  split at h
  · cases h
  · split at h
    · split_ifs at h with hmarker
      · obtain ⟨rfl, rfl⟩ := hmarker
        cases h
        exact ⟨by rw [encode, le32_ofLe32], fun _ => ⟨rfl, trivial⟩⟩
      · exact names_of_decodeVifClass h
    · exact names_of_decodeVifClass h

theorem names_of_decodeReq (h : decodeReq bs = .ok i) : Names window len ⟨.req, bs⟩ i := by
  unfold decodeReq at h
  split_ifs at h with hframe <;> cases h
  all_goals
    subst bs
    exact ⟨rfl, fun _ => ⟨rfl, trivial⟩⟩

theorem names_of_noOperands {row : Byte} {j : Instr} (hj : Names window len ⟨.micro, [row]⟩ j)
    (h : noOperands j bs = .ok i) : Names window len ⟨.micro, row :: bs⟩ i := by
  obtain ⟨rfl, rfl⟩ := noOperands_eq_ok.mp h
  exact hj

theorem names_of_timeOperand {row : Byte} {f : Time → Instr}
    (hf : ∀ t, Names window len ⟨.micro, row :: le32 t⟩ (f t)) (h : timeOperand f bs = .ok i) :
    Names window len ⟨.micro, row :: bs⟩ i := by
  obtain ⟨t, rfl, rfl⟩ := timeOperand_eq_ok.mp h
  exact hf t

theorem names_of_checked {row : Byte} {j : Instr} (hencode : encode j = ⟨.micro, row :: bs⟩)
    (hsel : symSelected window len j) (h : checked j = .ok i) :
    Names window len ⟨.micro, row :: bs⟩ i := by
  obtain ⟨hwf, rfl⟩ := checked_eq_ok.mp h
  exact ⟨hencode, fun _ => ⟨hwf, hsel⟩⟩

theorem names_of_offsetPayload {row : Byte} {f : List Byte → Nat → Instr}
    (hencode : ∀ c p, encode (f p c) = ⟨.micro, row :: BitVec.ofNat 8 c :: p⟩)
    (hsel : ∀ c p, symSelected window len (f p c)) (h : offsetPayload f bs = .ok i) :
    Names window len ⟨.micro, row :: bs⟩ i := by
  obtain ⟨c, p, rfl, hwf, rfl⟩ := offsetPayload_eq_ok.mp h
  refine ⟨?_, fun _ => ⟨hwf, hsel _ _⟩⟩
  rw [hencode, BitVec.ofNat_toNat, BitVec.setWidth_eq]

/-- The rows of the micro port, in their order (log 3). -/
theorem names_of_decodeMicro (h : decodeMicro bs = .ok i) : Names window len ⟨.micro, bs⟩ i := by
  unfold decodeMicro at h
  split at h
  · cases h
  obtain ⟨rfl, h⟩ | ⟨-, h⟩ := ite_eq_iff.mp h
  · obtain ⟨b, now, rfl, rfl⟩ := decodeRxbyte_eq_ok.mp h
    exact ⟨rfl, fun _ => ⟨rfl, trivial⟩⟩
  obtain ⟨rfl, h⟩ | ⟨-, h⟩ := ite_eq_iff.mp h
  · exact names_of_noOperands ⟨rfl, fun _ => ⟨rfl, trivial⟩⟩ h
  obtain ⟨rfl, h⟩ | ⟨-, h⟩ := ite_eq_iff.mp h
  · exact names_of_noOperands ⟨rfl, fun _ => ⟨rfl, trivial⟩⟩ h
  obtain ⟨rfl, h⟩ | ⟨-, h⟩ := ite_eq_iff.mp h
  · exact names_of_noOperands ⟨rfl, fun _ => ⟨rfl, trivial⟩⟩ h
  obtain ⟨rfl, h⟩ | ⟨-, h⟩ := ite_eq_iff.mp h
  · exact names_of_checked rfl trivial h
  obtain ⟨rfl, h⟩ | ⟨-, h⟩ := ite_eq_iff.mp h
  · exact names_of_checked rfl trivial h
  obtain ⟨rfl, h⟩ | ⟨-, h⟩ := ite_eq_iff.mp h
  · exact names_of_checked rfl trivial h
  obtain ⟨rfl, h⟩ | ⟨-, h⟩ := ite_eq_iff.mp h
  · exact names_of_checked rfl trivial h
  obtain ⟨rfl, h⟩ | ⟨-, h⟩ := ite_eq_iff.mp h
  · cases h
    exact ⟨rfl, fun _ => ⟨rfl, trivial⟩⟩
  obtain ⟨rfl, h⟩ | ⟨-, h⟩ := ite_eq_iff.mp h
  · obtain ⟨p, wasInit, rfl, hwf, rfl⟩ := decodeClassify_eq_ok.mp h
    exact ⟨rfl, fun _ => ⟨hwf, trivial⟩⟩
  obtain ⟨rfl, h⟩ | ⟨-, h⟩ := ite_eq_iff.mp h
  · exact names_of_checked rfl trivial h
  obtain ⟨rfl, h⟩ | ⟨-, h⟩ := ite_eq_iff.mp h
  · exact names_of_offsetPayload (fun _ _ => rfl) (fun _ _ => trivial) h
  obtain ⟨rfl, h⟩ | ⟨-, h⟩ := ite_eq_iff.mp h
  · exact names_of_offsetPayload (fun _ _ => rfl) (fun _ _ => trivial) h
  obtain ⟨rfl, h⟩ | ⟨-, h⟩ := ite_eq_iff.mp h
  · obtain ⟨start, length, first, p, rfl, hwf, rfl⟩ := decodeQclass_eq_ok.mp h
    exact ⟨by simp [encode], fun _ => ⟨hwf, trivial⟩⟩
  obtain ⟨rfl, h⟩ | ⟨-, h⟩ := ite_eq_iff.mp h
  · exact names_of_timeOperand (fun _ => ⟨rfl, fun _ => ⟨rfl, trivial⟩⟩) h
  obtain ⟨rfl, h⟩ | ⟨-, h⟩ := ite_eq_iff.mp h
  · exact names_of_timeOperand (fun _ => ⟨rfl, fun _ => ⟨rfl, trivial⟩⟩) h
  obtain ⟨rfl, h⟩ | ⟨-, h⟩ := ite_eq_iff.mp h
  · exact names_of_timeOperand (fun _ => ⟨rfl, fun _ => ⟨rfl, trivial⟩⟩) h
  obtain ⟨rfl, h⟩ | ⟨-, h⟩ := ite_eq_iff.mp h
  · obtain ⟨n, hn, rfl, rfl⟩ := decodeSilence_eq_ok.mp h
    exact ⟨rfl, fun _ => ⟨decide_eq_true hn, trivial⟩⟩
  obtain ⟨rfl, h⟩ | ⟨-, h⟩ := ite_eq_iff.mp h
  · exact names_of_noOperands ⟨rfl, fun _ => ⟨rfl, trivial⟩⟩ h
  obtain ⟨rfl, h⟩ | ⟨-, h⟩ := ite_eq_iff.mp h
  · exact names_of_timeOperand (fun _ => ⟨rfl, fun _ => ⟨rfl, trivial⟩⟩) h
  obtain ⟨rfl, h⟩ | ⟨-, h⟩ := ite_eq_iff.mp h
  · cases h
    exact ⟨rfl, fun _ => ⟨rfl, trivial⟩⟩
  obtain ⟨rfl, h⟩ | ⟨-, h⟩ := ite_eq_iff.mp h
  · obtain ⟨code, info, mask, rfl, rfl⟩ := decodeRaise_eq_ok.mp h
    exact ⟨rfl, fun _ => ⟨rfl, trivial⟩⟩
  · cases h

end

/-- Whatever the decoder answers is named by the input it read. -/
theorem names_of_decodeInput {window len : Nat} {x : Input} {i : Instr}
    (h : decodeInput window len x = .ok i) : Names window len x i := by
  obtain ⟨fmt, bs⟩ := x
  cases fmt with
  | ev => exact names_of_decodeEv h
  | sym => exact names_of_decodeSym h
  | frame => exact names_of_decodeFrame h
  | dif => exact names_of_decodeDif h
  | vif => exact names_of_decodeVif h
  | req => exact names_of_decodeReq h
  | micro => exact names_of_decodeMicro h

/-- Settles O4: the answer's encoding is the input it is named by. -/
theorem encodeDecodeAgree : Obligations.EncodeDecodeAgree :=
  fun _ _ _ _ h => (names_of_decodeInput h).1

/-- Settles O5: the answer is well formed, and its byte in its class, with every window but the illegal
0. -/
theorem decodedIsWellFormed : Obligations.DecodedIsWellFormed :=
  fun _ _ _ _ hw h => (names_of_decodeInput h).2 hw

/-! ### What each encoding is read as -/

/-- The operation of a received byte in a class (R92). -/
def symInstr (b : Byte) (now : Time) : SymClass → Instr
  | .ack => .symAck now
  | .start => .symStart now
  | .ignore => .symIgnore b now
  | .data => .symData b now

theorem decodeSym_le32 (window len : Nat) (b : Byte) (now : Time) :
    decodeSym window len (b :: le32 now) = .ok (symInstr b now (symClass window len b)) := by
  simp only [le32, decodeSym, ofLe32_extract]
  cases symClass window len b <;> rfl

theorem decodeEv_tick (now : Time) (rx : List Byte) :
    decodeEv (2 :: (le32 now ++ rx)) = .ok (.tick now rx) := by
  rw [← ofLe32_extract now, le32_ofLe32]
  rfl

/-- A byte keeps a number below 256, such as an offset into a payload (R94). -/
theorem toNat_ofNat_byte {n : Nat} (h : n < 256) : (BitVec.ofNat 8 n).toNat = n :=
  Nat.mod_eq_of_lt h

/-- A field that READFIELD finds in a payload of at most 255 bytes starts and ends below 256. -/
theorem readField_bytes {p : List Byte} {v : Field} (hfits : payloadFits p)
    (h : readField p v.start = some v) :
    (BitVec.ofNat 8 v.start).toNat = v.start ∧ (BitVec.ofNat 8 v.length).toNat = v.length := by
  obtain ⟨hstart, hend⟩ := readField_bounds h
  rw [fieldNext] at hstart hend
  exact ⟨toNat_ofNat_byte (by omega), toNat_ofNat_byte (by omega)⟩

/-- The four bytes of a raw value are too few for the status marker, so the table decides (R119). -/
theorem decodeVif_le32 (v0 : Byte) (raw : BitVec 32) :
    decodeVif (v0 :: le32 raw) = decodeVifClass v0 (le32 raw) := rfl

/-- REQ4 is told from the frames before it by its length. -/
theorem decodeReq_req4Frame : decodeReq req4Frame = .ok .req4 := by
  have hne : ∀ f : List Byte, f.length ≠ 125 → req4Frame ≠ f :=
    fun f hlength heq => hlength (heq ▸ req4Frame_length)
  rw [decodeReq, if_neg (hne _ (by decide)), if_neg (hne _ (by decide)), if_neg (hne _ (by decide)),
    if_pos rfl]

/-- Settles O3, operation by operation: each part of the decoder takes the layout that the encoder gives
its operation. -/
theorem decodeEncodeAgree : Obligations.DecodeEncodeAgree := by
  intro i window len hwf hsel
  cases i with
  | reset | poll | evReserved | frameToolong | frameReady | complete | pollbuild | cs8 | tx
  | req1 | req2 | req3 | req5 => rfl
  | req4 => exact decodeReq_req4Frame
  | tick now rx => exact decodeEv_tick now rx
  | symAck | symStart | symIgnore | symData =>
    exact (decodeSym_le32 ..).trans (by rw [hsel]; rfl)
  | validate f => exact if_pos (of_decide_eq_true hwf)
  | rxbyte b now => exact decodeRxbyte_eq_ok.mpr ⟨b, now, rfl, rfl⟩
  | chkStart | chkLength | chkStop | chkSum | decode => exact checked_eq_ok.mpr ⟨hwf, rfl⟩
  | classify p wasInit => exact decodeClassify_eq_ok.mpr ⟨p, wasInit, rfl, hwf, rfl⟩
  | readfield p c =>
    obtain ⟨_, hc⟩ := of_decide_eq_true hwf
    have hbyte := toNat_ofNat_byte hc
    exact offsetPayload_eq_ok.mpr ⟨BitVec.ofNat 8 c, p, rfl, by rw [hbyte, hwf], by rw [hbyte]⟩
  | record p c =>
    obtain ⟨hfits, hc⟩ := of_decide_eq_true hwf
    have hbyte := toNat_ofNat_byte (n := c) (by omega)
    exact offsetPayload_eq_ok.mpr ⟨BitVec.ofNat 8 c, p, rfl, by rw [hbyte, hwf], by rw [hbyte]⟩
  | qclass v p =>
    obtain ⟨hfits, hv⟩ := of_decide_eq_true hwf
    obtain ⟨hstart, hlength⟩ := readField_bytes hfits hv
    exact decodeQclass_eq_ok.mpr ⟨BitVec.ofNat 8 v.start, BitVec.ofNat 8 v.length, v.first, p, rfl,
      by rw [hstart, hlength, hwf], by rw [hstart, hlength]⟩
  | difC0 | difC5 | difC6 | difC7 | difC8 | difC9 | difCA | difCB | difCC | difCD | difCE | difCF =>
    simp [encode, decodeInput, decodeDif, codingOf_difByte, difByte_bits]
  | difInt8 _ _ c | difInt16 _ _ c | difInt24 _ _ c | difInt32 _ _ c =>
    have hbyte := toNat_ofNat_byte (of_decide_eq_true hwf : c < 256)
    simp [encode, decodeInput, decodeDif, codingOf_difByte, difByte_bits, hbyte]
  | vifEnergy e n raw | vifVolume e n raw | vifPower e n raw | vifFlow e n raw =>
    refine (decodeVif_le32 _ raw).trans ?_
    simp only [decodeVifClass, tableClass_vifByte3, vifByte3_bits, le32, ofLe32_extract]
  | vifTflow e n raw | vifTreturn e n raw | vifTdiff e n raw =>
    refine (decodeVif_le32 _ raw).trans ?_
    simp only [decodeVifClass, tableClass_vifByte2, vifByte2_bits, le32, ofLe32_extract]
  | vifStatus raw =>
    rw [← ofLe32_extract raw, encode, le32_ofLe32]
    rfl
  | vifOther v0 =>
    have hnone : tableClass standardVifTable v0 = none := Option.isNone_iff_eq_none.mp hwf
    simp [encode, decodeInput, decodeVif, decodeVifClass, hnone]
  | supervise now | tmoLink now | tmoGap now | send now =>
    exact timeOperand_eq_ok.mpr ⟨now, rfl, rfl⟩
  | silence n => exact decodeSilence_eq_ok.mpr ⟨n, of_decide_eq_true hwf, rfl, rfl⟩
  | pollframe fcb => cases fcb <;> rfl
  | raise code info mask => exact decodeRaise_eq_ok.mpr ⟨code, info, mask, rfl, rfl⟩

/-- Settles O6: the words of 30_encoding.md's examples, each read by its format. -/
theorem specWordsDecode : Obligations.SpecWordsDecode :=
  ⟨rfl, rfl, rfl, rfl, rfl, rfl, rfl, rfl, rfl, rfl⟩

end Sys2Proof.Proofs
end

section
/-! PROOFS. The long frame (30_encoding.md R93): which frames VALIDATE accepts (42_validator.md R200 to
R207), and that the synchronizer delivers one that it receives byte by byte (41_synchronizer.md R172 to
R182). -/

namespace Sys2Proof.Proofs

open Sys2Proof.Machine

/-! ### Frames by their parts -/

/-- A frame of 6 bytes or more is a header of four, a payload, and a trailer of two (R93). -/
theorem exists_frame_parts {f : List Byte} (h : 6 ≤ f.length) :
    ∃ a b c d q x y, f = [a, b, c, d] ++ q ++ [x, y] := by
  match f, h with
  | a :: b :: c :: d :: rest, h =>
    obtain rfl | ⟨init, y, rfl⟩ := List.eq_nil_or_concat' rest
    · simp at h
    · obtain rfl | ⟨q, x, rfl⟩ := List.eq_nil_or_concat' init
      · simp at h
      · exact ⟨a, b, c, d, q, x, y, by simp⟩

section

variable {a b c d x y : Byte} {p q : List Byte}

theorem payloadOf_parts : payloadOf ([a, b, c, d] ++ q ++ [x, y]) = q := by
  simp [payloadOf]

/-- VALIDATE's checks, read off the parts of a frame (R200 to R204). -/
theorem validateFrame_parts :
    validateFrame ([a, b, c, d] ++ q ++ [x, y]) = .ok p ↔
      a = startByte ∧ d = startByte ∧ b = c ∧ y = stopByte ∧ cs8 q = x ∧ p = q := by
  have hlength : ([a, b, c, d] ++ q ++ [x, y]).length = q.length + 6 := by simp
  have hstop : byteAt ([a, b, c, d] ++ q ++ [x, y]) (q.length + 6 - 1) = y := by
    simp [byteAt]
  have hsum : byteAt ([a, b, c, d] ++ q ++ [x, y]) (q.length + 6 - 2) = x := by
    simp [byteAt]
  rw [validateFrame_ok, payloadOf_parts, hlength, hstop, hsum]
  rfl

/-- The long frame of a payload passes every check (R206). -/
theorem validateFrame_longFrame (p : List Byte) : validateFrame (longFrame p) = .ok p :=
  validateFrame_parts.mpr ⟨rfl, rfl, rfl, rfl, rfl, rfl⟩

theorem longFrame_length (p : List Byte) : (longFrame p).length = p.length + 6 := by
  simp [longFrame]

/-- A frame cut at its declared length is accepted exactly if it is the long frame of its payload. -/
theorem validateFrame_ok_iff_longFrame {f : List Byte} (h6 : 6 ≤ f.length)
    (hcut : f.length = (byteAt f 1).toNat + 6) : validateFrame f = .ok p ↔ f = longFrame p := by
  constructor
  · intro h
    obtain ⟨a, b, c, d, q, x, y, rfl⟩ := exists_frame_parts h6
    obtain ⟨rfl, rfl, rfl, rfl, rfl, rfl⟩ := validateFrame_parts.mp h
    have hdeclared : p.length = b.toNat := by simpa [byteAt] using hcut
    rw [longFrame, hdeclared, BitVec.ofNat_toNat, BitVec.setWidth_eq]
  · rintro rfl
    exact validateFrame_longFrame p

end

theorem onFrame_of_long {f : List Byte} (found : MicroResult) (s : State) (h : 6 ≤ f.length) :
    onFrame f found s = .next { s with res := found } := if_neg (Nat.not_lt.mpr h)

theorem validatedResult_eq_payload {v : Validated} {p : List Byte} :
    validatedResult v = .payload p ↔ v = .ok p := by
  cases v <;> simp [validatedResult]

/-- Settles O35: VALIDATE leaves the payload exactly if the checks accept the frame with it, which is
then its long frame. -/
theorem validateAcceptsLongFrames : Obligations.ValidateAcceptsLongFrames := by
  intro f p s h6 hcut
  rw [exec_validate, onFrame_of_long _ s h6, ← validateFrame_ok_iff_longFrame h6 hcut,
    ← validatedResult_eq_payload]
  constructor
  · intro h
    injection h with h
    exact congrArg State.res h
  · intro h
    rw [h]

/-! ### The frames of the ROM -/

theorem req4Frame_eq_longFrame : req4Frame = longFrame (payloadOf req4Frame) := by
  have hpayload : payloadOf req4Frame = req4Payload := payloadOf_parts
  have hlength : req4Payload.length = 0x77 := by simp [req4Payload]
  rw [hpayload, longFrame, hlength]
  rfl

/-- Every frame of the ROM is the long frame of its payload (R300 to R305). -/
theorem romFrame_eq_longFrame :
    ∀ f ∈ [req1Frame, req2Frame, req3Frame, req4Frame, req5Frame], f = longFrame (payloadOf f) := by
  simp only [List.forall_mem_cons, List.not_mem_nil, false_implies, implies_true, and_true]
  exact ⟨rfl, rfl, rfl, req4Frame_eq_longFrame, rfl⟩

/-- The payload of the poll frame, by its first byte (R306). -/
def pollPayload (b4 : Byte) : List Byte :=
  [b4, 0xFE, 0x51, 0x0F, 0x00, 0x00, 0x01, 0x59, 0x02, 0x03, 0x04, 0x06, 0x05, 0x07, 0x08, 0x09, 0x0B]

/-- A poll frame is the long frame of its payload, whatever its mask and its bit (R306, R308). -/
theorem pollFrame_eq_longFrame (mask : Byte) (fcb : Bool) :
    pollFrame mask fcb = longFrame (pollPayload (if fcb then 0x53 ||| mask else 0x53)) := by
  cases fcb <;> rfl

/-- Settles O57: the ROM's frames and the poll frames are long frames, and these pass VALIDATE. -/
theorem requestFramesAreValid : Obligations.RequestFramesAreValid := by
  refine ⟨fun f hf => ?_, fun mask fcb => ?_⟩
  · have hlong := validateFrame_longFrame (payloadOf f)
    rwa [← romFrame_eq_longFrame f hf] at hlong
  · rw [pollFrame_eq_longFrame]
    exact validateFrame_longFrame _

/-! ### The byte classes and the rows with a condition -/

/-- Settles O24: each class has its own condition, here with the window of 4. -/
theorem symClassesPartition : Obligations.SymClassesPartition := by
  intro len b
  refine ⟨symClass_eq_ack_iff, symClass_eq_start_iff, symClass_eq_ignore_iff.trans ?_,
    symClass_eq_data_iff.trans ?_⟩
  · simp [startByte, ackByte]
  · simp [ackByte, Nat.one_le_iff_ne_zero]

theorem bufRead_eq_some {s : State} {i : Nat} {b : Byte} (hi : i < s.len)
    (h : Memory.read s.buf i = some b) : bufRead s i = some b := by
  rw [bufRead, if_pos hi, h]

theorem exec_frameToolong (s : State) : exec .frameToolong s = execFrameToolong s := rfl

theorem exec_frameReady (s : State) : exec .frameReady s = execFrameReady s := rfl

/-- Settles O29: outside its condition each row takes its last branch. -/
theorem conditionalRowsDoNothing : Obligations.ConditionalRowsDoNothing := by
  intro b d now s
  refine ⟨fun h => ?ack, fun h => ?start, fun h => ?ignore, fun h => ?data, fun h => ?toolong,
    fun h => ?ready⟩
  case ack =>
    exact if_neg fun hc => Nat.not_lt.mpr h (symClass_eq_ack_iff.mp hc).2
  case start =>
    exact if_neg fun hc => h (symClass_eq_start_iff.mp hc).2
  case ignore =>
    refine if_neg fun hc => ?_
    obtain ⟨hlen, hstart, hack⟩ := symClass_eq_ignore_iff.mp hc
    obtain h | h | h := h
    · exact h hlen
    · exact hstart h
    · exact hack h
  case data =>
    refine if_neg fun hc => ?_
    obtain ⟨hlen, hack⟩ := symClass_eq_data_iff.mp hc
    exact h.elim hlen hack
  case toolong =>
    by_cases hlen : s.len < 2
    · exact if_pos hlen
    · obtain ⟨hread, hshort⟩ := h.resolve_left hlen
      rw [exec_frameToolong, execFrameToolong, if_neg hlen, bufRead_eq_some (by omega) hread]
      exact if_neg hshort
  case ready =>
    by_cases hlen : s.len < 2
    · exact if_pos hlen
    · obtain ⟨hread, hpartial⟩ := h.resolve_left hlen
      rw [exec_frameReady, execFrameReady, if_neg hlen, bufRead_eq_some (by omega) hread]
      exact if_neg hpartial

/-! ### A frame received byte by byte -/

theorem feedsAll_append {now : Time} {xs ys : List Byte} {s u t : State}
    (hx : feedsAll now xs s u) (hy : feedsAll now ys u t) : feedsAll now (xs ++ ys) s t := by
  induction xs generalizing s with
  | nil =>
    cases hx
    exact hy
  | cons b xs ih =>
    obtain ⟨v, hb, hx⟩ := hx
    exact ⟨v, hb, ih hx⟩

/-- The candidate frame is `f`, each of its bytes held (R21). -/
def Holds (f : List Byte) (s : State) : Prop :=
  s.len = f.length ∧ ∀ i, i < f.length → Memory.read s.buf i = f[i]?

/-- `s` after a byte is appended at time `now`, before the tests (R176). -/
def appended (b : Byte) (now : Time) (s : State) : State :=
  { s with buf := Memory.write s.buf s.len b, len := s.len + 1, lastRxMs := now }

section

variable {f F : List Byte} {b d : Byte} {now : Time} {s : State}

theorem Holds.appended (h : Holds f s) (b : Byte) (now : Time) :
    Holds (f ++ [b]) (appended b now s) := by
  obtain ⟨hlen, hread⟩ := h
  refine ⟨by simp [Proofs.appended, hlen], fun i hi => ?_⟩
  by_cases hlast : i = s.len
  · subst hlast
    simp [Proofs.appended, Memory.read_write_same, hlen]
  · have hlt : i < f.length := by
      simp only [List.length_append, List.length_singleton] at hi
      omega
    rw [List.getElem?_append_left hlt, ← hread i hlt]
    exact Memory.read_write_other _ _ _ _ hlast

theorem Holds.candidate_eq (h : Holds f s) : candidate s = some f := by
  obtain ⟨hlen, hread⟩ := h
  obtain ⟨g, hg, hglen⟩ := candidate_of_held (s := s) fun i hi => by
    rw [hread i (hlen ▸ hi), List.getElem?_eq_getElem (hlen ▸ hi)]
    simp
  rw [hg]
  congr 1
  apply List.ext_getElem?
  intro i
  by_cases hi : i < f.length
  · rw [← hread i hi, Memory.readRange_get hg i (hlen ▸ hi), Nat.zero_add]
  · rw [List.getElem?_eq_none (by omega), List.getElem?_eq_none (by omega)]

theorem Holds.bufRead_eq (h : Holds f s) {i : Nat} (hi : i < f.length) : bufRead s i = f[i]? := by
  obtain ⟨hlen, hread⟩ := h
  rw [bufRead, if_pos (hlen ▸ hi), hread i hi]

theorem rxByte_of_data (hclass : symClass s.cfg.ackWindowLen s.len b = .data)
    (hroom : s.len < bufCap s.cfg) : rxByte b now s = frameTests (appended b now s) := by
  have happend : bufAppend b (noteRx now s) = .next (appended b now s) := if_pos hroom
  rw [rxByte, hclass]
  simp only
  rw [symDataOp, happend, andThen_of_next]

theorem frameTests_of_partial (hd : bufRead s 1 = some d) (hlong : ¬ isTooLong s d)
    (hready : ¬ isReady s d) : frameTests s = .next (pushFeed .accumulating s) := by
  rw [frameTests, hd]
  simp only [if_neg hlong, if_neg hready]

theorem frameTests_of_complete (hf : Holds f s) (h6 : 6 ≤ f.length) (hd : bufRead s 1 = some d)
    (hlong : ¬ isTooLong s d) (hready : isReady s d) :
    frameTests s = .next (pushFeed .frameReady (completeFrame f s)) := by
  have hcomplete : completeOp s = .next (completeFrame f s) := by
    rw [completeOp, hf.candidate_eq]
    exact if_neg (Nat.not_lt.mpr h6)
  rw [frameTests, hd]
  simp only [if_neg hlong, if_pos hready]
  rw [frameReadyOp, hcomplete, andThen_of_next]

/-- `F` is a frame cut at its declared length `d`, which is not too long, and no byte of it is read as
an acknowledgment in any legal window (R172 to R182). -/
structure Receivable (cfg : Config) (F : List Byte) (d : Byte) : Prop where
  window : cfg.ackWindowLen ≤ 4
  start : F[0]? = some startByte
  declared : F[1]? = some d
  cut : F.length = d.toNat + 6
  fits : d.toNat ≤ cfg.maxL.toNat
  noAck : ∀ i, i < 4 → F[i]? ≠ some ackByte

/-- Within a receivable frame each byte after the first is appended and the tests are made on the
declared length. -/
theorem Receivable.rxByte_eq {rest : List Byte} (hF : Receivable s.cfg F d)
    (hsplit : F = f ++ b :: rest) (hne : f ≠ []) (hf : Holds f s) :
    rxByte b now s = frameTests (appended b now s) ∧
      bufRead (appended b now s) 1 = some d ∧ ¬ isTooLong (appended b now s) d := by
  have hpos : 0 < f.length := List.length_pos_iff.mpr hne
  have hlen : s.len = f.length := hf.1
  have hlt : f.length < d.toNat + 6 := by
    rw [← hF.cut, hsplit]
    simp
  have hb : F[f.length]? = some b := by simp [hsplit]
  have hdata : symClass s.cfg.ackWindowLen s.len b = .data := by
    refine symClass_eq_data_iff.mpr ⟨by omega, fun ⟨hack, hwindow⟩ => ?_⟩
    exact hF.noAck f.length (by have := hF.window; omega) (hack ▸ hb)
  have hroom : s.len < bufCap s.cfg := by
    have := hF.fits
    rw [bufCap]
    omega
  refine ⟨rxByte_of_data hdata hroom, ?_, fun h => Nat.not_lt.mpr hF.fits h.2⟩
  have htwo : 1 < (f ++ [b]).length := by simp [hpos]
  rw [(hf.appended b now).bufRead_eq htwo, ← hF.declared, hsplit, List.append_cons f b rest,
    List.getElem?_append_left htwo]

/-- `s` with the first `k` bytes of a frame taken at time `now` into the buffer `m`. -/
def receiving (s : State) (now : Time) (m : Memory) (k : Nat) : State :=
  { s with buf := m, len := k, lastRxMs := now,
           feeds := s.feeds ++ List.replicate k .accumulating }

/-- A start marker begins a frame while hunting (R175). -/
theorem rxByte_start (hs : s.len = 0) :
    rxByte startByte now s = .next (receiving s now (Memory.write s.buf 0 startByte) 1) := by
  have hclass : symClass s.cfg.ackWindowLen s.len startByte = .start :=
    symClass_eq_start_iff.mpr ⟨rfl, hs⟩
  rw [rxByte, hclass]
  rfl

theorem feedsAll_singleton {t : State} (h : rxByte b now s = .next t) : feedsAll now [b] s t :=
  ⟨t, h, rfl⟩

/-- Up to the last byte of a receivable frame its bytes are held one by one (R175, R176). -/
theorem Receivable.feedsAll_take (hF : Receivable s.cfg F d) (now : Time) (hs : s.len = 0) {k : Nat}
    (hpos : 1 ≤ k) (hk : k < F.length) :
    ∃ m, feedsAll now (F.take k) s (receiving s now m k) ∧
      Holds (F.take k) (receiving s now m k) := by
  induction k, hpos using Nat.le_induction with
  | base =>
    have hfirst : F.take 1 = [startByte] := by
      rw [List.take_one, List.head?_eq_getElem?, hF.start]
      rfl
    rw [hfirst]
    refine ⟨_, feedsAll_singleton (rxByte_start hs), rfl, fun i hi => ?_⟩
    obtain rfl : i = 0 := by simpa using hi
    exact Memory.read_write_same _ _ _
  | succ k hpos ih =>
    obtain ⟨m, hfeeds, hheld⟩ := ih (by omega)
    have hlen : (F.take k).length = k := List.length_take_of_le (by omega)
    have hne : F.take k ≠ [] := List.ne_nil_of_length_pos (by omega)
    have hsplit : F = F.take k ++ F[k] :: F.drop (k + 1) := by
      rw [← List.drop_eq_getElem_cons, List.take_append_drop]
    obtain ⟨hbyte, hdeclared, hlong⟩ :=
      Receivable.rxByte_eq (s := receiving s now m k) (now := now) hF hsplit hne hheld
    have hready : ¬ isReady (appended F[k] now (receiving s now m k)) d := by
      rintro ⟨-, heq⟩
      have : k + 1 = d.toNat + 6 := heq
      have := hF.cut
      omega
    rw [frameTests_of_partial hdeclared hlong hready] at hbyte
    have hstate : pushFeed .accumulating (appended F[k] now (receiving s now m k)) =
        receiving s now (Memory.write m k F[k]) (k + 1) := by
      simp [pushFeed, appended, receiving, List.replicate_succ']
    rw [hstate] at hbyte
    rw [← List.take_concat_get' F k (by omega)]
    exact ⟨_, feedsAll_append hfeeds (feedsAll_singleton hbyte), hheld.appended _ now⟩

/-- The last byte of a receivable frame completes it (R178, R181). -/
theorem Receivable.feedsAll_complete (hF : Receivable s.cfg F d) (now : Time) (hs : s.len = 0)
    {k : Nat} (hk : F.length = k + 1) :
    ∃ m, feedsAll now F s (pushFeed .frameReady (completeFrame F
      { s with buf := m, len := k + 1, lastRxMs := now,
               feeds := s.feeds ++ List.replicate k .accumulating })) := by
  have hcut := hF.cut
  obtain ⟨m, hfeeds, hheld⟩ := hF.feedsAll_take now hs (k := k) (by omega) (by omega)
  have hlen : (F.take k).length = k := List.length_take_of_le (by omega)
  have hne : F.take k ≠ [] := List.ne_nil_of_length_pos (by omega)
  have hsplit : F.take k ++ [F[k]] = F := by
    rw [List.take_concat_get' F k (by omega), ← hk, List.take_length]
  obtain ⟨hbyte, hdeclared, hlong⟩ :=
    Receivable.rxByte_eq (s := receiving s now m k) (now := now) hF hsplit.symm hne hheld
  have hready : isReady (appended F[k] now (receiving s now m k)) d :=
    ⟨show 4 < k + 1 by omega, show k + 1 = d.toNat + 6 by omega⟩
  have hwhole := hheld.appended F[k] now
  rw [hsplit] at hwhole
  rw [frameTests_of_complete hwhole (by omega) hdeclared hlong hready] at hbyte
  have hall := feedsAll_append hfeeds (feedsAll_singleton hbyte)
  rw [hsplit] at hall
  exact ⟨Memory.write m k F[k], hall⟩

end

/-! ### Classification does not look at the buffer -/

/-- `s` with another buffer and other feed results. -/
def withFrame (m : Memory) (n : Nat) (fs : List FeedResult) (s : State) : State :=
  { s with buf := m, len := n, feeds := fs }

theorem decodeLoop_withFrame (m : Memory) (n : Nat) (fs : List FeedResult) (p : List Byte)
    (fuel cur : Nat) (seen : Byte) (s : State) :
    decodeLoop fuel p cur seen (withFrame m n fs s) =
      withFrame m n fs (decodeLoop fuel p cur seen s) := by
  induction fuel generalizing cur seen s with
  | zero => rfl
  | succ fuel ih =>
    have htable : (withFrame m n fs s).cfg.vifTable = s.cfg.vifTable := rfl
    simp only [decodeLoop, htable]
    split
    · split
      · rfl
      · exact ih _ _ (emit _ s)
    · rfl

theorem classifyPayload_withFrame (m : Memory) (n : Nat) (fs : List FeedResult) (p : List Byte)
    (wasInit : Bool) (s : State) :
    classifyPayload p wasInit (withFrame m n fs s) =
      withFrame m n fs (classifyPayload p wasInit s) := by
  have hcfg : (withFrame m n fs s).cfg = s.cfg := rfl
  simp only [classifyPayload, decodePayload, hcfg]
  split_ifs
  · exact decodeLoop_withFrame ..
  · rfl
  · rfl

/-- Initialization is in progress unless the code is FF (D16). -/
theorem inInit_eq (i : InitStep) : inInit i = (initCode i != 0xFF) := by
  cases i <;> rfl

/-- The long frame of a payload of at most MAX_L bytes can be received, unless its length reads as an
acknowledgment. -/
theorem receivable_longFrame {cfg : Config} {p : List Byte} (hcfg : cfg.legal)
    (hfits : p.length ≤ cfg.maxL.toNat) (hE5 : p.length ≠ 0xE5) :
    Receivable cfg (longFrame p) (BitVec.ofNat 8 p.length) := by
  have hbyte : (BitVec.ofNat 8 p.length).toNat = p.length := toNat_ofNat_byte (by omega)
  have hack : BitVec.ofNat 8 p.length ≠ ackByte := fun heq =>
    hE5 (hbyte.symm.trans (congrArg BitVec.toNat heq))
  have hstart : startByte ≠ ackByte := by decide
  exact {
    window := hcfg.2
    start := rfl
    declared := rfl
    cut := by rw [longFrame_length, hbyte]
    fits := by rwa [hbyte]
    noAck := fun i hi => by interval_cases i <;> simpa [longFrame] }

/-- Settles O34: the frame is received whole, VALIDATE accepts it, and COMPLETE classifies its payload,
which does not depend on the buffer. -/
theorem longFrameIsDelivered : Obligations.LongFrameIsDelivered := by
  intro now s p hs hcfg hfits hE5
  obtain ⟨m, hfeeds⟩ := (receivable_longFrame hcfg hfits hE5).feedsAll_complete now hs
    (longFrame_length p)
  refine ⟨_, _, hfeeds, rfl, ?_⟩
  have hclassify := classifyPayload_withFrame m (p.length + 6)
    (s.feeds ++ List.replicate (p.length + 5) .accumulating) p (inInit s.initStep)
    { s with lastRxMs := now, replyPending := false, initStep := setAcked s.initStep }
  rw [completeFrame, validateFrame_longFrame, ← inInit_eq]
  exact congrArg (fun u => pushFeed .frameReady (bufClear u)) hclassify

end Sys2Proof.Proofs
end

section
/-! PROOFS. Fields, values and records (30_encoding.md R100 to R107, R118 to R121; 43_record_decoder.md
R222, R230, R240, R251). -/

namespace Sys2Proof.Proofs

open Sys2Proof.Machine

/-! ### Variable-length fields -/

theorem fieldLength_append {field : List Byte} (h : isField field) (post : List Byte) :
    fieldLength (field ++ post) = some field.length := by
  obtain ⟨start, last, rfl, hstart, hlast⟩ := h
  induction start with
  | nil => simp [fieldLength, hlast]
  | cons b start ih =>
    obtain ⟨hb, hstart⟩ := List.forall_mem_cons.mp hstart
    rw [List.cons_append, List.cons_append, fieldLength, if_pos hb, ih hstart]
    rfl

theorem fieldLength_eq_none {bs : List Byte} (h : ∀ b ∈ bs, b.msb = true) :
    fieldLength bs = none := by
  induction bs with
  | nil => rfl
  | cons b bs ih =>
    obtain ⟨hb, hbs⟩ := List.forall_mem_cons.mp h
    simp [fieldLength, hb, ih hbs]

/-- READFIELD finds the field that stands at its offset (R101, R222). -/
theorem readField_append {field : List Byte} {b : Byte} (pre post : List Byte) (h : isField field)
    (hb : field[0]? = some b) :
    readField (pre ++ field ++ post) pre.length = some ⟨pre.length, b, field.length⟩ := by
  have hdrop : (pre ++ field ++ post).drop pre.length = field ++ post := by simp
  have hfirst : (pre ++ field ++ post)[pre.length]? = some b := by
    obtain ⟨hpos, -⟩ := List.getElem?_eq_some_iff.mp hb
    rw [List.append_assoc, List.getElem?_append_right (le_refl _), Nat.sub_self,
      List.getElem?_append_left hpos, hb]
  rw [readField, hfirst, hdrop, fieldLength_append h]

theorem readField_eq_none {p : List Byte} {c : Nat} (h : ∀ b ∈ p.drop c, b.msb = true) :
    readField p c = none := by
  rw [readField, fieldLength_eq_none h]
  cases p[c]? <;> rfl

theorem exec_readfield (p : List Byte) (c : Nat) (s : State) :
    exec (.readfield p c) s = .next { s with res := fieldResult (readField p c) } := rfl

/-- Settles O43: the length of the field is that of the run which ends at its first byte with bit 7
clear. -/
theorem readFieldResult : Obligations.ReadFieldResult := by
  refine ⟨fun pre field post b s hfield hb => ?_, fun p c s hopen => ?_⟩
  · rw [exec_readfield, readField_append pre post hfield hb]
    rfl
  · rw [exec_readfield, readField_eq_none hopen]
    rfl

/-! ### Signed values -/

theorem leNat_lt (bs : List Byte) : leNat bs < 2 ^ (8 * bs.length) := by
  induction bs with
  | nil => simp [leNat]
  | cons b bs ih =>
    have hb := b.isLt
    have hpow : 2 ^ (8 * (b :: bs).length) = 256 * 2 ^ (8 * bs.length) := by
      rw [List.length_cons, Nat.mul_succ, Nat.pow_add]
      omega
    rw [hpow, leNat]
    omega

/-- A value of 1 to 4 bytes is read as two's complement of its own width (R61, R106). -/
theorem signedLe_toInt {bs : List Byte} (hpos : 1 ≤ bs.length) (hle : bs.length ≤ 4) :
    (signedLe bs).toInt =
      if leNat bs < 2 ^ (8 * bs.length - 1) then (leNat bs : Int)
      else (leNat bs : Int) - 2 ^ (8 * bs.length) := by
  have hlt := leNat_lt bs
  have hpow : 2 ^ (8 * bs.length) = 2 * 2 ^ (8 * bs.length - 1) := by
    rw [← Nat.pow_succ']
    congr 1
    omega
  rw [signedLe, sext32, BitVec.toInt_signExtend_of_le (by omega), BitVec.toInt_eq_toNat_cond,
    BitVec.toNat_ofNat, Nat.mod_eq_of_lt hlt]
  have hhalf : 2 * leNat bs < 2 ^ (8 * bs.length) ↔ leNat bs < 2 ^ (8 * bs.length - 1) := by omega
  simp only [hhalf, Nat.cast_pow, Nat.cast_ofNat]

/-! ### Records -/

theorem recordAt_eq_record {table : List VifRow} {payload : List Byte} {c w : Nat} {d v : Field}
    {raw : BitVec 32} {tag : Tag} {e : Int} (hd : readField payload c = some d)
    (hv : readField payload (fieldNext d) = some v)
    (hvalue : codedValue d.first c (payload.drop (fieldNext v)) = .value raw w)
    (hclass : quantityClass table v payload = some (tag, e)) :
    recordAt table payload c = .record tag raw e (fieldNext v + w) := by
  simp only [recordAt, hd, hv, hvalue, hclass]

/-- A coding of 1 to 4 reads as many bytes (R234 to R237). -/
theorem codedValue_append {d0 : Byte} {val : List Byte} (c : Nat) (post : List Byte)
    (hcoding : codingOf d0 = val.length) (hpos : 1 ≤ val.length) (hle : val.length ≤ 4) :
    codedValue d0 c (val ++ post) = .value (signedLe val) val.length := by
  have hwidth : ¬ (val.length < 1 ∨ 4 < val.length) := by omega
  have hlong : ¬ (val ++ post).length < val.length := by simp
  simp only [codedValue, hcoding, if_neg hwidth, if_neg hlong, List.take_left]

/-- The status marker is read off the VIF field alone (R119, R240). -/
theorem isStatusMarker_append {vif : List Byte} {v0 : Byte} (pre post : List Byte)
    (hv0 : vif[0]? = some v0) :
    isStatusMarker ⟨pre.length, v0, vif.length⟩ (pre ++ vif ++ post) = true ↔ hasStatusMarker vif := by
  have hfirst : v0 = 0xFD ↔ vif[0]? = some 0xFD := by rw [hv0, Option.some.injEq]
  have hsecond : 2 ≤ vif.length → (pre ++ vif ++ post)[pre.length + 1]? = vif[1]? := fun h => by
    rw [List.append_assoc, List.getElem?_append_right (by omega), Nat.add_sub_cancel_left,
      List.getElem?_append_left h]
  simp only [isStatusMarker, Bool.and_eq_true, beq_iff_eq, decide_eq_true_eq, hfirst, and_assoc]
  refine and_congr_right fun _ => ⟨fun ⟨h, hmark⟩ => hsecond h ▸ hmark, fun hmark => ?_⟩
  obtain ⟨h, -⟩ := List.getElem?_eq_some_iff.mp hmark
  exact ⟨h, (hsecond h).trans hmark⟩

/-- QCLASS of a VIF field is the status class if it begins with the marker, else the table's (R240). -/
theorem quantityClass_append {table : List VifRow} {vif : List Byte} {v0 : Byte} {tag : Tag} {e : Int}
    (pre post : List Byte) (hv0 : vif[0]? = some v0)
    (hstatus : hasStatusMarker vif → tag = .status ∧ e = 0)
    (htable : ¬ hasStatusMarker vif → tableClass table v0 = some (tag, e)) :
    quantityClass table ⟨pre.length, v0, vif.length⟩ (pre ++ vif ++ post) = some (tag, e) := by
  have hiff := isStatusMarker_append pre post hv0
  by_cases hmarker : hasStatusMarker vif
  · obtain ⟨rfl, rfl⟩ := hstatus hmarker
    exact if_pos (hiff.mpr hmarker)
  · exact (if_neg (mt hiff.mp hmarker)).trans (htable hmarker)

theorem exec_record (p : List Byte) (c : Nat) (s : State) :
    exec (.record p c) s =
      .next { s with res := Machine.recordResult (recordAt s.cfg.vifTable p c) } := rfl

/-- Settles O44: the fields are found where they stand, the coding reads the value, and the VIF field
names the class. -/
theorem recordResult : Obligations.RecordResult := by
  intro s pre dif vif val post d0 v0 tag e hdif hvif hd0 hv0 hcoding hpos hle hstatus htable
  refine ⟨signedLe val, ?_, signedLe_toInt hpos hle⟩
  have hd := readField_append pre (vif ++ val ++ post) hdif hd0
  have hv := readField_append (pre ++ dif) (val ++ post) hvif hv0
  have hvalue := codedValue_append pre.length post hcoding hpos hle
  have hclass := quantityClass_append (pre ++ dif) (val ++ post) hv0 hstatus htable
  have hdrop : (pre ++ dif ++ vif ++ val ++ post).drop (pre.length + dif.length + vif.length) =
      val ++ post := by
    rw [← List.length_append, ← List.length_append, List.append_assoc (pre ++ dif ++ vif),
      List.drop_left]
  simp only [← List.append_assoc, List.length_append] at hd hv hclass
  rw [← hdrop] at hvalue
  rw [exec_record, recordAt_eq_record hd hv hvalue hclass]
  rfl

/-! ### The classes of VIF_TABLE -/

/-- A row that masks out the low bits of blocks of `w` values and takes them for the exponent has one
block for its range (R107, R118). -/
theorem tableClass_block {w : Nat} {mask pattern expMask : Byte} (hw : w = 8 ∨ w = 4)
    (hmask : ∀ y : Byte, (y &&& 0x7F &&& mask).toNat = w * ((y &&& 0x7F).toNat / w))
    (hexp : ∀ y : Byte, (y &&& expMask).toNat = (y &&& 0x7F).toNat % w)
    (hpattern : w ∣ pattern.toNat) (tag : Tag) (base : Nat) (rows : List VifRow) (v0 : Byte) :
    tableClass (⟨tag, mask, pattern, expMask, base⟩ :: rows) v0 =
      if pattern.toNat ≤ (v0 &&& 0x7F).toNat ∧ (v0 &&& 0x7F).toNat ≤ pattern.toNat + (w - 1) then
        some (tag, ((v0 &&& 0x7F).toNat : Int) - (pattern.toNat : Int) - (base : Int))
      else tableClass rows v0 := by
  have hmatch : rowMatches ⟨tag, mask, pattern, expMask, base⟩ v0 = true ↔
      pattern.toNat ≤ (v0 &&& 0x7F).toNat ∧ (v0 &&& 0x7F).toNat ≤ pattern.toNat + (w - 1) := by
    simp only [rowMatches, beq_iff_eq, ← BitVec.toNat_inj, hmask]
    obtain rfl | rfl := hw <;> omega
  rw [tableClass]
  refine if_ctx_congr hmatch (fun hrange => ?_) (fun _ => rfl)
  simp only [exponent, hexp]
  obtain rfl | rfl := hw <;> (congr 2; omega)

/-- Which bits of the VIF byte the masks of VIF_TABLE keep, as division and remainder (R118). -/
theorem toNat_and_78 : ∀ y : Byte, (y &&& 0x7F &&& 0x78).toNat = 8 * ((y &&& 0x7F).toNat / 8) := by
  decide

theorem toNat_and_7C : ∀ y : Byte, (y &&& 0x7F &&& 0x7C).toNat = 4 * ((y &&& 0x7F).toNat / 4) := by
  decide

theorem toNat_and_07 : ∀ y : Byte, (y &&& 0x07).toNat = (y &&& 0x7F).toNat % 8 := by decide

theorem toNat_and_03 : ∀ y : Byte, (y &&& 0x03).toNat = (y &&& 0x7F).toNat % 4 := by decide

/-- Settles O47: row after row, four blocks of eight values and three of four. -/
theorem vifTableRanges : Obligations.VifTableRanges := by
  rintro v0 x rfl
  have block8 := fun pattern hpattern =>
    tableClass_block (pattern := pattern) (.inl rfl) toNat_and_78 toNat_and_07 hpattern
  have block4 := fun pattern hpattern =>
    tableClass_block (pattern := pattern) (.inr rfl) toNat_and_7C toNat_and_03 hpattern
  rw [standardVifTable, energyRow, block8 _ (by decide), volumeRow, block8 _ (by decide),
    powerRow, block8 _ (by decide), flowRow, block8 _ (by decide), tFlowRow, block4 _ (by decide),
    tReturnRow, block4 _ (by decide), tDiffRow, block4 _ (by decide), tableClass]
  simp

/-! ### Status flags -/

/-- Widening a value of 1 byte or more keeps its lowest byte (R120). -/
theorem flagByte_signedLe (b : Byte) (bs : List Byte) (h : bs.length ≤ 3) :
    flagByte (signedLe (b :: bs)) = b := by
  have hlow : ∀ i, i < 8 → (leNat (b :: bs)).testBit i = b.getLsbD i := fun i hi => by
    rw [leNat, Nat.add_comm, show 256 = 2 ^ 8 from rfl, Nat.testBit_two_pow_mul_add _ b.isLt,
      if_pos hi]
    rfl
  apply BitVec.eq_of_getLsbD_eq
  intro i hi
  have hwidth : i < 8 * (bs.length + 1) := by omega
  have hword : i < 32 := by omega
  simp only [flagByte, signedLe, sext32, BitVec.getLsbD_extractLsb', BitVec.getLsbD_signExtend,
    BitVec.getLsbD_ofNat, List.length_cons, Nat.zero_add, hi, hwidth, hword, hlow i hi, decide_true,
    Bool.true_and, if_true]

theorem statusFlags_eq (statusBit : List StatusFlag) (flags : Byte) :
    statusFlags statusBit flags =
      (((List.range 8).zip statusBit).filter fun p => flags.getLsbD p.1).map Prod.snd := by
  rw [statusFlags, ← List.filterMap_eq_map, List.filterMap_filter]
  rfl

/-- The flags of a flag byte come in the order of `STATUS_BIT` (R121). -/
theorem statusFlags_sublist {statusBit : List StatusFlag} (h : statusBit.length ≤ 8) (flags : Byte) :
    (statusFlags statusBit flags).Sublist statusBit := by
  have hzip : ((List.range 8).zip statusBit).map Prod.snd = statusBit :=
    List.map_snd_zip (by simpa using h)
  rw [statusFlags_eq]
  conv_rhs => rw [← hzip]
  exact List.filter_sublist.map Prod.snd

/-- A flag is reported exactly if it stands in `STATUS_BIT` at the place of a set bit (R121). -/
theorem mem_statusFlags {statusBit : List StatusFlag} {flags : Byte} {f : StatusFlag} :
    f ∈ statusFlags statusBit flags ↔
      ∃ i, i < 8 ∧ statusBit[i]? = some f ∧ flags.getLsbD i = true := by
  have hzip : ∀ i, (i, f) ∈ (List.range 8).zip statusBit ↔ i < 8 ∧ statusBit[i]? = some f := by
    intro i
    have hrange : ∀ n, (List.range 8)[n]? = some i ↔ i < 8 ∧ n = i := fun n => by
      simp only [List.getElem?_eq_some_iff, List.length_range, List.getElem_range, exists_prop]
      omega
    simp only [List.mem_iff_getElem?, List.getElem?_zip_eq_some, hrange, and_assoc, exists_and_left,
      exists_eq_left]
  simp [statusFlags_eq, hzip, and_assoc]

/-- Settles O51: the flags are those at the set bits, and no flag stands at two of them. -/
theorem statusFlagsOfFirstByte : Obligations.StatusFlagsOfFirstByte := by
  refine ⟨flagByte_signedLe, rfl, fun flags => statusFlags_sublist (by decide) flags,
    fun flags i f hi => mem_statusFlags.trans ⟨?_, fun hbit => ?_⟩⟩
  · rintro ⟨j, -, hj, hbit⟩
    have hnodup : standardConfig.statusBit.Nodup := by decide
    obtain ⟨hlt, -⟩ := List.getElem?_eq_some_iff.mp hi
    rwa [(List.getElem?_inj hlt hnodup).mp (hi.trans hj.symm)]
  · exact ⟨i, (List.getElem?_eq_some_iff.mp hi).1, hi, hbit⟩

end Sys2Proof.Proofs
end

section
/-! PROOFS. The input events (40_events_and_tick.md R140 to R146). TICK goes through two states: the one
SUPERVISE leaves, and the one the bytes are received into. Under the invariant every byte is received,
so TICK completes; whether it sends is decided by the flags of the second state. -/

namespace Sys2Proof.Proofs

open Sys2Proof.Machine

/-! ### The step and the events without a phase -/

theorem step_of_decoded {s : State} {x : Input} {rest : List Input} {i : Instr}
    (hs : s.inputs = x :: rest) (hdec : inputInstr s x = .ok i) :
    step s = exec i (beginInput s) := by
  have hpending : pendingInput s = some x := by rw [pendingInput, hs, List.head?_cons]
  simp only [step, hpending, hdec]

/-- Settles O1: the input at the head of the list is the one taken, and the rest stays pending. -/
theorem stepRunsDecodedInput : Obligations.StepRunsDecodedInput := by
  intro s x rest i hs hdec
  rw [step_of_decoded hs hdec, beginInput, hs, List.tail_cons]

/-- Settles O17: RESET writes R55's values, and an empty buffer has no index below `len`. -/
theorem resetResult : Obligations.ResetResult := by
  intro s
  have hunreadable : ∀ i, bufRead (resetRegisters s) i = none := fun i =>
    if_neg (Nat.not_lt_zero i)
  exact ⟨resetRegisters s, rfl, rfl, rfl, rfl, rfl, rfl, rfl, rfl, rfl, rfl, hunreadable, rfl, rfl⟩

/-- Settles O19: the row's meaning is the state it finds. -/
theorem reservedEventResult : Obligations.ReservedEventResult := fun _ => rfl

/-! ### Under the invariant every byte is received -/

/-- Between bytes the buffer has room for one more, since a frame with a known length is not complete
(R24). -/
theorem len_lt_bufCap_of_inv {s : State} (hs : Inv s) : s.len < bufCap s.cfg := by
  rw [bufCap]
  by_cases hlen : 2 ≤ s.len
  · obtain ⟨declared, hread⟩ := Option.isSome_iff_exists.mp ((hs.exact 1).mpr (by omega))
    obtain ⟨hfits, hpartial⟩ := hs.incomplete declared hlen hread
    omega
  · omega

/-- The tests after an append read `buf[1]`, and a ready frame has the 6 bytes that COMPLETE takes. -/
theorem frameTests_completes {s : State} (htwo : 2 ≤ s.len)
    (hheld : ∀ i, i < s.len → Memory.read s.buf i ≠ none) : ∃ t, frameTests s = .next t := by
  obtain ⟨declared, hread⟩ := Option.ne_none_iff_exists'.mp (hheld 1 htwo)
  simp only [frameTests, bufRead_eq_some htwo hread]
  split
  · exact ⟨_, rfl⟩
  · split
    · rename_i hready
      obtain ⟨f, hf, hlen⟩ := candidate_of_held hheld
      have hsix : ¬ f.length < 6 := by omega
      simp only [frameReadyOp, completeOp, hf, if_neg hsix, andThen_of_next]
      exact ⟨_, rfl⟩
    · exact ⟨_, rfl⟩

/-- RXBYTE completes under the invariant; only the data class could stop it (log 7). -/
theorem rxByte_completes (b : Byte) (now : Time) {s : State} (hs : Inv s) :
    ∃ t, rxByte b now s = .next t := by
  cases hclass : symClass s.cfg.ackWindowLen s.len b with
  | ack | start | ignore =>
    rw [rxByte, hclass]
    exact ⟨_, rfl⟩
  | data =>
    obtain ⟨hlen, -⟩ := symClass_eq_data_iff.mp hclass
    rw [rxByte_of_data hclass (len_lt_bufCap_of_inv hs)]
    refine frameTests_completes (show 2 ≤ s.len + 1 by omega) fun i hi => ?_
    exact Option.isSome_iff_ne_none.mp ((isSome_read_write b hs.exact i).mpr hi)

theorem drain_completes (now : Time) (rx : List Byte) {s : State} (hs : Inv s) :
    ∃ t, drain now rx s = .next t := by
  induction rx generalizing s with
  | nil => exact ⟨s, rfl⟩
  | cons b rx ih =>
    obtain ⟨u, hbyte⟩ := rxByte_completes b now hs
    obtain ⟨t, hrest⟩ := ih (inv_of_rxByte hs hbyte)
    exact ⟨t, andThen_next.mpr ⟨u, hbyte, hrest⟩⟩

/-! ### The phases of TICK -/

theorem exec_tick_of_drain {now : Time} {rx : List Byte} {s u : State}
    (h : drain now rx (supervise now s) = .next u) :
    exec (.tick now rx) s = .next (sendIfDue now u) := by
  change execTick now rx s = _
  rw [execTick, h, andThen_of_next]

theorem inv_sendIfDue (now : Time) {s : State} (hs : Inv s) : Inv (sendIfDue now s) := by
  obtain ⟨_, _, heq⟩ | ⟨_, heq⟩ := sendIfDue_cases now s
  · rw [heq]
    exact inv_sendOp now hs
  · rwa [heq]

/-- Under the invariant the bytes of a tick are received after SUPERVISE. -/
theorem exec_tick_completes (now : Time) (rx : List Byte) {s : State} (hs : Inv s) :
    ∃ u, drain now rx (supervise now s) = .next u ∧ Inv u ∧
      exec (.tick now rx) s = .next (sendIfDue now u) := by
  have hsup : Inv (supervise now s) := inv_of_effects hs (effects_supervise now s)
  obtain ⟨u, hu⟩ := drain_completes now rx hsup
  exact ⟨u, hu, inv_of_effects hsup (effects_of_drain hu), exec_tick_of_drain hu⟩

/-- Settles O10: RESET, POLL and the reserved event have one outcome, and TICK completes under the
invariant, which taking the input keeps. -/
theorem eventStepsNeverStop : Obligations.EventStepsNeverStop := by
  rintro s hinv ⟨x, rest, i, hs, hev, hdec⟩
  have hevent : decodeEv x.bytes = .ok i := by
    rwa [inputInstr, decodeInput, hev] at hdec
  rw [stepsOn, step_of_decoded hs hdec]
  obtain rfl | rfl | rfl | ⟨now, rx, rfl⟩ := decodeEv_ok hevent
  · exact ⟨_, rfl⟩
  · exact ⟨_, rfl⟩
  · exact ⟨_, rfl⟩
  · obtain ⟨u, -, -, hexec⟩ := exec_tick_completes now rx (inv_beginInput hinv)
    exact ⟨_, hexec⟩

/-- What the first two phases of TICK change in `s`: the receive registers, the trigger, the time of the
last byte if there is one, a feed result for each byte, and outputs without a transmission. -/
theorem drain_supervise_shape {now : Time} {rx : List Byte} {s u : State}
    (h : drain now rx (supervise now s) = .next u) :
    ∃ rs es,
      u = { s with buf := u.buf, len := u.len, initStep := u.initStep,
                   replyPending := u.replyPending, sendTrigger := u.sendTrigger,
                   lastRxMs := if rx = [] then s.lastRxMs else now, errLast := u.errLast,
                   out := s.out ++ es, feeds := s.feeds ++ rs } ∧
      rs.length = rx.length ∧ txCount es = 0 := by
  obtain ⟨tr, es, hv, -, hes, -⟩ := supervise_shape now s
  obtain ⟨rs, es', i, hu, hrs, -, hes', -⟩ := drain_shape h
  generalize supervise now s = v at hv hu
  refine ⟨rs, es ++ es', ?_, hrs, by rw [txCount_append, hes, hes']⟩
  cases u
  cases v
  simp only [State.mk.injEq] at hu hv ⊢
  simp [hu, hv]

/-- Settles O21: the bytes are received under the invariant, and SEND adds one output and keeps the
receive time, the feed results and the model's own fields. -/
theorem tickCompletes : Obligations.TickCompletes := by
  intro now rx s hs
  obtain ⟨u, hu, hinv, hexec⟩ := exec_tick_completes now rx hs
  obtain ⟨rs, es, hshape, hrs, -⟩ := drain_supervise_shape hu
  have hrx : u.lastRxMs = if rx = [] then s.lastRxMs else now := by rw [hshape]
  have hfeeds : u.feeds = s.feeds ++ rs := by rw [hshape]
  have hout : u.out = s.out ++ es := by rw [hshape]
  have hkept : u.cfg = s.cfg ∧ u.inputs = s.inputs ∧ u.res = s.res := by rw [hshape]; simp
  have hcount : u.feeds.length = s.feeds.length + rx.length := by
    rw [hfeeds, List.length_append, hrs]
  refine ⟨sendIfDue now u, hexec, inv_sendIfDue now hinv, ?_⟩
  obtain ⟨_, _, heq⟩ | ⟨_, heq⟩ := sendIfDue_cases now u
  · rw [heq, sendOp_eq]
    exact ⟨hrx, hcount, ⟨es ++ [.tx (sendFrame u)], by rw [hout, List.append_assoc]⟩, hkept⟩
  · rw [heq]
    exact ⟨hrx, hcount, ⟨es, hout⟩, hkept⟩

/-- The bytes fed one by one are phase 2 of TICK. -/
theorem feedsAll_iff_drain {now : Time} {rx : List Byte} {s t : State} :
    feedsAll now rx s t ↔ drain now rx s = .next t := by
  induction rx generalizing s with
  | nil =>
    rw [feedsAll, drain, Host.Outcome.next.injEq]
    exact eq_comm
  | cons b rx ih =>
    rw [feedsAll, drain, andThen_next]
    exact exists_congr fun u => and_congr_right fun _ => ih

/-- Settles O20: SUPERVISE has one outcome, the fed bytes are the drain, and phase 3 is SEND under its
condition. -/
theorem tickRunsThreePhases : Obligations.TickRunsThreePhases := by
  intro now rx s u v hsup hfeeds
  cases hsup
  rw [exec_tick_of_drain (feedsAll_iff_drain.mp hfeeds), sendIfDue]
  split
  · rfl
  · rfl

/-! ### The trigger and the awaited reply through the first two phases -/

theorem tmoLink_initStep (now : Time) (s : State) : (tmoLink now s).initStep = s.initStep := by
  obtain ⟨_, heq⟩ | ⟨_, heq⟩ := tmoLink_cases now s
  · rw [heq]
  · rw [heq, linkTimeout_eq]

theorem tmoLink_lastRxMs (now : Time) (s : State) : (tmoLink now s).lastRxMs = s.lastRxMs := by
  obtain ⟨_, heq⟩ | ⟨_, heq⟩ := tmoLink_cases now s
  · rw [heq]
  · rw [heq, linkTimeout_eq]

/-- The receive timeout does not decide whether the initialization gap has passed. -/
theorem gapPassed_tmoLink (now : Time) (s : State) :
    gapPassed now (tmoLink now s) ↔ gapPassed now s := by
  rw [gapPassed, tmoLink_initStep, tmoLink_lastRxMs]

theorem tmoLink_sendTrigger_iff (now : Time) (s : State) :
    (tmoLink now s).sendTrigger = true ↔ s.sendTrigger = true ∨
      (linkTimedOut now s ∧ (inInit s.initStep = true ∨ s.cfg.resendOnSteadyTimeout = true)) := by
  obtain ⟨hno, heq⟩ | ⟨hyes, heq⟩ := tmoLink_cases now s
  · rw [heq]
    exact ⟨.inl, fun h => h.resolve_right fun ⟨hyes, _⟩ => hno hyes⟩
  · simp only [heq, linkTimeout_eq, Bool.or_eq_true, or_assoc]
    exact or_congr_right (and_iff_right hyes).symm

/-- SUPERVISE leaves the trigger set when it was set before, or when one of its two rules schedules a
send (R283, R285). -/
theorem supervise_sendTrigger_iff (now : Time) (s : State) :
    (supervise now s).sendTrigger = true ↔ s.sendTrigger = true ∨
      (linkTimedOut now s ∧ (inInit s.initStep = true ∨ s.cfg.resendOnSteadyTimeout = true)) ∨
      gapPassed now s := by
  rw [← or_assoc, ← tmoLink_sendTrigger_iff, ← gapPassed_tmoLink, supervise]
  obtain ⟨hno, heq⟩ | ⟨hyes, heq⟩ := tmoGap_cases now (tmoLink now s)
  · rw [heq, or_iff_left hno]
  · rw [heq, setTrigger_sendTrigger]
    exact iff_of_true rfl (.inr hyes)

theorem drain_sendTrigger {now : Time} {rx : List Byte} {s t : State}
    (h : drain now rx s = .next t) : t.sendTrigger = s.sendTrigger := by
  obtain ⟨_, _, _, heq, _⟩ := drain_shape h
  rw [heq]

/-- Received bytes never make the block await a reply. -/
theorem drain_replyPending_eq_false {now : Time} {rx : List Byte} {s t : State}
    (h : drain now rx s = .next t) (hs : s.replyPending = false) : t.replyPending = false := by
  obtain ⟨_, _, _, _, _, _, _, _, hclear | hkept⟩ := drain_shape h
  · exact hclear
  · exact hkept.trans hs

theorem supervise_replyPending_eq_false (now : Time) {s : State} (hs : s.replyPending = false) :
    (supervise now s).replyPending = false := by
  obtain ⟨_, _, _, _, _, hclear | hkept⟩ := supervise_shape now s
  · exact hclear
  · exact hkept.trans hs

/-- The receive timeout gives the awaited reply up (R283). -/
theorem supervise_replyPending_of_timedOut {now : Time} {s : State} (h : linkTimedOut now s) :
    (supervise now s).replyPending = false := by
  have hlink : (tmoLink now s).replyPending = false := by
    rw [tmoLink, if_pos h, linkTimeout_eq]
  rw [supervise]
  obtain ⟨_, heq⟩ | ⟨_, heq⟩ := tmoGap_cases now (tmoLink now s)
  · rw [heq, hlink]
  · rw [heq, setTrigger_replyPending, hlink]

/-- Settles O18: SUPERVISE and the bytes keep a trigger that is set, so that phase 3 sends unless a
reply is awaited. -/
theorem pollResult : Obligations.PollResult := by
  rintro s p rfl
  refine ⟨rfl, fun now rx u v hsup hfeeds => ?_⟩
  have htick := tickRunsThreePhases now rx _ u v hsup hfeeds
  cases hsup
  have htrigger : v.sendTrigger = true := by
    rw [drain_sendTrigger (feedsAll_iff_drain.mp hfeeds)]
    exact (supervise_sendTrigger_iff now _).mpr (.inl rfl)
  refine ⟨htrigger, fun hclear => ?_, fun hpending => ?_⟩
  · rw [htick, if_pos ⟨htrigger, hclear⟩]
  · rw [htick, if_neg fun ⟨_, hclear⟩ => Bool.false_ne_true (hclear.symm.trans hpending)]

/-! ### The transmission of a tick -/

theorem txCount_drain_supervise {now : Time} {rx : List Byte} {s u : State}
    (h : drain now rx (supervise now s) = .next u) : txCount u.out = txCount s.out := by
  obtain ⟨_, es, hshape, -, hes⟩ := drain_supervise_shape h
  have hout : u.out = s.out ++ es := by rw [hshape]
  rw [hout, txCount_append, hes, Nat.add_zero]

/-- SEND transmits one frame, consumes the trigger, awaits a reply and records the time (R310). -/
theorem sendOp_transmits (now : Time) (s : State) :
    txCount (sendOp now s).out = txCount s.out + 1 ∧ (sendOp now s).sendTrigger = false ∧
      (sendOp now s).replyPending = true ∧ (sendOp now s).lastTxMs = now := by
  rw [sendOp_eq]
  exact ⟨txCount_append _ _, rfl, rfl, rfl⟩

/-- Settles O22: the first two phases transmit nothing and keep what SEND writes; phase 3 sends once or
leaves the state as it is. -/
theorem tickSendsAtMostOnce : Obligations.TickSendsAtMostOnce := by
  intro now rx s t h
  obtain ⟨u, hu, rfl⟩ := execTick_next h
  have hcount := txCount_drain_supervise hu
  obtain ⟨_, _, heq⟩ | ⟨hnotDue, heq⟩ := sendIfDue_cases now u
  · rw [heq, ← hcount]
    exact .inl (sendOp_transmits now u)
  · obtain ⟨_, _, hshape, -⟩ := drain_supervise_shape hu
    have hkept : u.lastTxMs = s.lastTxMs ∧ u.fcb = s.fcb ∧ u.silenceMs = s.silenceMs := by
      rw [hshape]
      simp
    rw [heq]
    exact .inr ⟨hcount, hnotDue, hkept⟩

/-- Settles O23: the supervisor sets the trigger and no reply is awaited after it: the timeout gives the
reply up, and an acknowledged step awaits none (R314). The bytes change neither, so phase 3 sends. -/
theorem scheduledResendIsServed : Obligations.ScheduledResendIsServed := by
  intro now rx s hs hscheduled
  have hdue : (supervise now s).sendTrigger = true ∧ (supervise now s).replyPending = false := by
    obtain ⟨harmed, hidle, hresend⟩ | ⟨hacked, hgap⟩ := hscheduled
    · have htimedOut : linkTimedOut now s := ⟨harmed, hidle⟩
      have hinit : inInit s.initStep = true ∨ s.cfg.resendOnSteadyTimeout = true :=
        hresend.imp_left bne_iff_ne.mpr
      exact ⟨(supervise_sendTrigger_iff now s).mpr (.inr (.inl ⟨htimedOut, hinit⟩)),
        supervise_replyPending_of_timedOut htimedOut⟩
    · have hpassed : gapPassed now s := ⟨hacked, hgap⟩
      exact ⟨(supervise_sendTrigger_iff now s).mpr (.inr (.inr hpassed)),
        supervise_replyPending_eq_false now (hs.quiet hacked)⟩
  obtain ⟨htrigger, hclear⟩ := hdue
  obtain ⟨u, hu, -, hexec⟩ := exec_tick_completes now rx hs
  have hsend : sendIfDue now u = sendOp now u :=
    if_pos ⟨(drain_sendTrigger hu).trans htrigger, drain_replyPending_eq_false hu hclear⟩
  refine ⟨sendOp now u, hsend ▸ hexec, ?_⟩
  rw [← txCount_drain_supervise hu]
  exact sendOp_transmits now u

end Sys2Proof.Proofs
end

section
/-! PROOFS. The synchronizer (41_synchronizer.md R171 to R181): RXBYTE is the row of its byte's class, the
rows under their conditions, COMPLETE on a frame that the buffer holds, and the completion law. -/

namespace Sys2Proof.Proofs

open Sys2Proof.Machine

/-! ### The rows under their conditions -/

theorem exec_rxbyte (b : Byte) (now : Time) (s : State) :
    exec (.rxbyte b now) s = rxByte b now s := rfl

theorem exec_symAck_of_lt {now : Time} {s : State} (h : s.len < s.cfg.ackWindowLen) :
    exec (.symAck now) s = .next (symAckOp now s) :=
  if_pos (symClass_eq_ack_iff.mpr ⟨rfl, h⟩)

theorem exec_symStart_of_hunting {now : Time} {s : State} (h : s.len = 0) :
    exec (.symStart now) s = .next (symStartOp now s) :=
  if_pos (symClass_eq_start_iff.mpr ⟨rfl, h⟩)

theorem exec_symIgnore_of_class {b : Byte} {now : Time} {s : State}
    (h : symClass s.cfg.ackWindowLen s.len b = .ignore) :
    exec (.symIgnore b now) s = .next (symIgnoreOp now s) := if_pos h

theorem exec_frameToolong_of_declared {d : Byte} {s : State} (hd : bufRead s 1 = some d)
    (h : isTooLong s d) : exec .frameToolong s = .next (frameTooLongOp d s) := by
  have htwo : ¬ s.len < 2 := by
    obtain ⟨hlen, -⟩ := h
    omega
  rw [exec_frameToolong, execFrameToolong, if_neg htwo, hd]
  exact if_pos h

theorem exec_frameReady_of_declared {d : Byte} {s : State} (hd : bufRead s 1 = some d)
    (h : isReady s d) : exec .frameReady s = frameReadyOp s := by
  have htwo : ¬ s.len < 2 := by
    obtain ⟨hlen, -⟩ := h
    omega
  rw [exec_frameReady, execFrameReady, if_neg htwo, hd]
  exact if_pos h

/-- Settles O26: the acknowledgment is in its window, and bit 4 of FF is set already. -/
theorem symAckResult : Obligations.SymAckResult := by
  intro now s hwindow
  refine ⟨exec_symAck_of_lt hwindow, ?_⟩
  rw [initCode_setAcked]
  split_ifs with hsteady
  · rw [hsteady]
    rfl
  · rfl

/-- Settles O27: each row has its class while hunting, and the marker is one write at index 0. -/
theorem symStartIgnoreResult : Obligations.SymStartIgnoreResult := by
  intro now s hlen
  refine ⟨⟨symStartOp now s, exec_symStart_of_hunting hlen, rfl, ?same, ?other⟩,
    fun b hstart hack => ?ignore⟩
  case same => exact Memory.read_write_same _ _ _
  case other => exact fun a ha => Memory.read_write_other _ _ _ _ ha
  case ignore =>
    exact exec_symIgnore_of_class (symClass_eq_ignore_iff.mpr ⟨hlen, hstart, fun h => hack h.1⟩)

/-- Settles O30: the declared length is read from index 1, and the row raises error 5 with it. -/
theorem frameTooLongResult : Obligations.FrameTooLongResult := by
  intro d s hlen hread hlong
  rw [exec_frameToolong_of_declared (bufRead_eq_some (by omega) hread) ⟨hlen, hlong⟩,
    frameTooLongOp, raiseError_emits]
  rfl

/-! ### A complete candidate frame -/

theorem completeOp_of_holds {f : List Byte} {s : State} (hf : Holds f s) (h6 : 6 ≤ f.length) :
    completeOp s = .next (completeFrame f s) := by
  rw [completeOp, hf.candidate_eq]
  exact if_neg (Nat.not_lt.mpr h6)

theorem completeFrame_of_err {f : List Byte} {code : ErrorCode} {info : Byte} (s : State)
    (h : validateFrame f = .err code info) :
    completeFrame f s = raiseError code info 0xFF (bufClear (clearReply s)) := by
  rw [completeFrame, h]

theorem completeFrame_of_ok {f p : List Byte} (s : State) (h : validateFrame f = .ok p) :
    completeFrame f s =
      bufClear (classifyPayload p (inInit s.initStep) (ackStep (clearReply s))) := by
  rw [completeFrame, h]

theorem completeFrame_feeds (f : List Byte) (s : State) : (completeFrame f s).feeds = s.feeds := by
  obtain ⟨_, _, _, heq, _⟩ := completeFrame_emits f s
  rw [heq]

theorem completeFrame_len (f : List Byte) (s : State) : (completeFrame f s).len = 0 := by
  obtain ⟨_, _, _, heq, _⟩ := completeFrame_emits f s
  rw [heq]

/-- Settles O31: the bytes held are the candidate frame, and COMPLETE goes by what VALIDATE finds. -/
theorem completeResult : Obligations.CompleteResult := by
  intro f s h6 hlen hread
  have hheld : Holds f s := ⟨hlen.symm, fun i hi => hread i (hlen ▸ hi)⟩
  rw [exec_complete, completeOp_of_holds hheld h6]
  refine ⟨fun code info herr => ?invalid, fun p hok => ?valid⟩
  case invalid =>
    rw [completeFrame_of_err s herr, raiseError_emits]
    rfl
  case valid =>
    rw [completeFrame_of_ok s hok, inInit_eq]
    exact ⟨_, rfl, rfl⟩

/-- Settles O32: a ready frame has 6 bytes or more, so COMPLETE runs, and it adds no feed result of its
own. -/
theorem frameReadyResult : Obligations.FrameReadyResult := by
  intro f d s hlen hread hd hfour hcut
  have hheld : Holds f s := ⟨hlen.symm, fun i hi => hread i (hlen ▸ hi)⟩
  have hdeclared : bufRead s 1 = some d := (hheld.bufRead_eq (by omega)).trans hd
  have hcomplete := completeOp_of_holds hheld (by omega)
  refine ⟨completeFrame f s, hcomplete, ?_⟩
  rw [exec_frameReady_of_declared hdeclared ⟨hfour, hcut⟩, frameReadyOp, hcomplete, andThen_of_next,
    pushFeed, completeFrame_feeds]

/-! ### SYM.DATA and RXBYTE -/

/-- The declared length after an append: the byte itself at index 1, else the byte held there. -/
theorem bufRead_appended {b d : Byte} (now : Time) {s : State} (hlen : 1 ≤ s.len)
    (hd : (if s.len = 1 then some b else Memory.read s.buf 1) = some d) :
    bufRead (appended b now s) 1 = some d := by
  refine bufRead_eq_some (show 1 < s.len + 1 by omega) ?_
  rw [← hd]
  split_ifs with hone
  · rw [appended, hone]
    exact Memory.read_write_same _ _ _
  · exact Memory.read_write_other _ _ _ _ (Ne.symm hone)

theorem frameTests_of_tooLong {d : Byte} {s : State} (hd : bufRead s 1 = some d)
    (h : isTooLong s d) : frameTests s = .next (frameTooLongOp d s) := by
  rw [frameTests, hd]
  exact if_pos h

/-- A ready frame has more than the two bytes at which it could be too long. -/
theorem frameTests_of_ready {d : Byte} {s : State} (hd : bufRead s 1 = some d)
    (h : isReady s d) : frameTests s = frameReadyOp s := by
  have hlong : ¬ isTooLong s d := by
    obtain ⟨hfour, -⟩ := h
    rintro ⟨htwo, -⟩
    omega
  rw [frameTests, hd]
  simp only [if_neg hlong, if_pos h]

/-- Settles O28: the invariant leaves room for the byte, and the tests after the append are the
conditions of the two FRAME rows. -/
theorem symDataResult : Obligations.SymDataResult := by
  intro b d now s hinv hlen hack hd
  have hclass : symClass s.cfg.ackWindowLen s.len b = .data :=
    symClass_eq_data_iff.mpr ⟨by omega, hack⟩
  have hexec : exec (.symData b now) s = frameTests (appended b now s) := by
    rw [← rxByte_of_data hclass (len_lt_bufCap_of_inv hinv), rxByte, hclass]
    exact exec_symData_of_class hclass
  have hdeclared := bufRead_appended now hlen hd
  refine ⟨appended b now s, rfl, Memory.read_write_same _ _ _,
    fun a ha => Memory.read_write_other _ _ _ _ ha, fun hlong => ?tooLong, fun hready => ?ready,
    fun hlong hready => ?neither⟩
  case tooLong =>
    rw [hexec, frameTests_of_tooLong hdeclared hlong, exec_frameToolong_of_declared hdeclared hlong]
  case ready =>
    rw [hexec, frameTests_of_ready hdeclared hready, exec_frameReady_of_declared hdeclared hready]
  case neither =>
    rw [hexec, frameTests_of_partial hdeclared hlong hready]
    rfl

/-- The acknowledgment changes nothing in the steady state, and bit 4 alone before it (R173, R180). -/
theorem setAcked_cases (i : InitStep) :
    setAcked i = i ∨ (initCode i ≠ 0xFF ∧ initCode (setAcked i) = initCode i ||| 0x10) := by
  cases i <;> decide

/-- Settles O25: the condition of each row is its class; completion and the invariant are known of
RXBYTE, and R171's table is read off the ways the buffer can end. -/
theorem rxByteResult : Obligations.RxByteResult := by
  refine ⟨fun b now s => ?dispatch, fun b now s hs => ?completes⟩
  case dispatch =>
    rw [exec_rxbyte, rxByte]
    cases hclass : symClass s.cfg.ackWindowLen s.len b with
    | ack => exact (exec_symAck_of_lt (symClass_eq_ack_iff.mp hclass).2).symm
    | start => exact (exec_symStart_of_hunting (symClass_eq_start_iff.mp hclass).2).symm
    | ignore => exact (exec_symIgnore_of_class hclass).symm
    | data => exact (exec_symData_of_class hclass).symm
  case completes =>
    obtain ⟨t, hbyte⟩ := rxByte_completes b now hs
    obtain ⟨r, es, i, ht, _, _, hi, _, hbuf⟩ := rxByte_shape hbyte
    have hinit : t.initStep = i := by rw [ht]
    have herr : t.errLast = recordedError s.errLast es := by rw [ht]
    have hfeeds : t.feeds = s.feeds ++ [r] := by rw [ht]
    refine ⟨t, r, hbyte, inv_of_rxByte hs hbyte, hfeeds, ?len, ?reply, ?step, es, ?frame⟩
    case len =>
      obtain ⟨_, hl, hr, _⟩ | ⟨_, hl, _, hr, _⟩ | ⟨_, _, hl, hr, _⟩ | ⟨_, hl, _, hr, _⟩ := hbuf
      all_goals simp [hl, hr]
    case reply =>
      obtain ⟨_, _, _, hclear⟩ | ⟨_, _, _, hr, _⟩ | ⟨_, _, _, hr, _⟩ | ⟨_, _, _, hr, _⟩ := hbuf
      · exact fun _ => hclear
      all_goals simp [hr]
    case step =>
      rw [hinit]
      obtain hsame | ⟨hacked, _⟩ := hi
      · exact .inl hsame
      · rw [hacked]
        exact setAcked_cases s.initStep
    case frame =>
      rw [hinit, herr, hfeeds]
      exact ht

/-! ### The completion law -/

/-- A frame with a length of at most MAX_L can be received when neither its length nor the two bytes
after it read as an acknowledgment (R181, R182). -/
theorem receivable_cons {cfg : Config} {d : Byte} {rest : List Byte} (hcfg : cfg.legal)
    (hfits : d.toNat ≤ cfg.maxL.toNat) (hd : d ≠ ackByte) (hcut : rest.length = d.toNat + 4)
    (hrest : ∀ b ∈ rest.take 2, b ≠ ackByte) : Receivable cfg (startByte :: d :: rest) d where
  window := hcfg.2
  start := rfl
  declared := rfl
  cut := by simp [hcut]
  fits := hfits
  noAck i hi heq := by
    have hmem : ackByte ∈ startByte :: d :: rest.take 2 := by
      refine List.mem_of_getElem? (i := i) ?_
      rw [← heq]
      exact List.getElem?_take_of_lt (l := startByte :: d :: rest) hi
    obtain hstart | hmem := List.mem_cons.mp hmem
    · exact absurd hstart (by decide)
    · obtain hlength | hmem := List.mem_cons.mp hmem
      · exact hd hlength.symm
      · exact hrest _ hmem rfl

/-- Settles O33: the frame can be received, so every byte before the last accumulates and the last one
completes it. -/
theorem completionLaw : Obligations.CompletionLaw := by
  intro now s L rest hs hcfg hfits hE5 hcut hrest
  have hlast : (startByte :: L :: rest).length = (L.toNat + 5) + 1 := by simp [hcut]
  obtain ⟨m, hfeeds⟩ :=
    (receivable_cons hcfg hfits hE5 hcut hrest).feedsAll_complete now hs hlast
  refine ⟨_, hfeeds, ?_, ?_⟩
  · rw [pushFeed_len, completeFrame_len]
  · rw [pushFeed_feeds, completeFrame_feeds]

end Sys2Proof.Proofs
end

section
/-! PROOFS. The checksum unit and the frame validator (42_validator.md R200 to R208): the checksum is a
sum, so it does not depend on the order and moves with every byte; the checks run one by one and in
their order. -/

namespace Sys2Proof.Proofs

open Sys2Proof.Machine

/-! ### The checksum (R205) -/

theorem cs8_eq_sum (bs : List Byte) : cs8 bs = bs.sum := List.sum_eq_foldl.symm

theorem cs8_cons (b : Byte) (bs : List Byte) : cs8 (b :: bs) = b + cs8 bs := by
  rw [cs8_eq_sum, cs8_eq_sum, List.sum_cons]

theorem cs8_eq_ofNat_byteSum (bs : List Byte) : cs8 bs = BitVec.ofNat 8 (byteSum bs) := by
  induction bs with
  | nil => rfl
  | cons b bs ih =>
    have hsum : byteSum (b :: bs) = b.toNat + byteSum bs := by simp [byteSum]
    rw [cs8_cons, ih, hsum, BitVec.ofNat_add, BitVec.ofNat_toNat, BitVec.setWidth_eq]

/-- Replacing one byte moves the checksum by the difference of the two bytes (R208). -/
theorem cs8_set {bs : List Byte} {j : Nat} (hj : j < bs.length) (b : Byte) :
    cs8 (bs.set j b) = cs8 bs + (b - bs[j]) := by
  rw [cs8_eq_sum, cs8_eq_sum, List.sum_set', dif_pos hj, neg_add_eq_sub]

/-- Settles O39: the checksum is the sum of the bytes, which a permutation keeps. -/
theorem checksumIsTheSum : Obligations.ChecksumIsTheSum := by
  refine ⟨rfl, fun bs => ⟨?_, fun bs' hperm => ?_⟩⟩
  · rw [cs8_eq_ofNat_byteSum, BitVec.toNat_ofNat]
  · rw [cs8_eq_sum, cs8_eq_sum, hperm.sum_eq]

theorem exec_cs8 (bs : List Byte) (s : State) :
    exec (.cs8 bs) s = .next { s with res := .byte (cs8 bs) } := rfl

/-- Settles O40: CS8 leaves the checksum, which is the sum modulo 256. -/
theorem cs8Result : Obligations.Cs8Result := by
  intro bs s
  rw [exec_cs8, cs8_eq_ofNat_byteSum]

/-! ### The four checks and VALIDATE (R200 to R204) -/

/-- What a check returns, from the condition under which it fails. -/
theorem checkResult_ite (code : ErrorCode) (fails : Prop) [Decidable fails] (info : Byte) :
    checkResult code (if fails then some info else none) =
      if fails then .failed code info else .passed := apply_ite ..

/-- Settles O36: each check is its condition and its info byte, and VALIDATE is the chain of the four. -/
theorem validatorResults : Obligations.ValidatorResults := by
  rintro f s h6 _ _ _ _ _ _ rfl rfl rfl rfl rfl rfl
  rw [exec_chkStart, exec_chkLength, exec_chkStop, exec_chkSum, exec_validate]
  simp only [onFrame_of_long _ s h6, Bool.or_eq_true, bne_iff_ne, ← cs8_eq_ofNat_byteSum]
  refine ⟨?start, ?length, ?stop, ?sum, ?validate⟩
  case start => rw [startCheck, checkResult_ite]; rfl
  case length => rw [lengthCheck, checkResult_ite]; rfl
  case stop => rw [stopCheck, checkResult_ite]; rfl
  case sum => rw [sumCheck, checkResult_ite]; rfl
  case validate => simp only [validateFrame_eq, apply_ite validatedResult]; rfl

/-! ### A changed byte (R208) -/

section

variable {f p : List Byte} {i k : Nat} {b : Byte}

theorem byteAt_set_same (h : i < f.length) : byteAt (f.set i b) i = b := by
  simp [byteAt, h]

theorem byteAt_set_other (h : i ≠ k) : byteAt (f.set i b) k = byteAt f k := by
  simp [byteAt, List.getElem?_set_ne h]

/-- A change behind the header changes the payload at that place, and nothing of it when the place is
past its end. -/
theorem payloadOf_set (h : 4 ≤ i) : payloadOf (f.set i b) = (payloadOf f).set (i - 4) b := by
  rw [payloadOf, payloadOf, List.length_set, List.drop_set, if_neg (Nat.not_lt.mpr h), List.take_set]

theorem payloadOf_length : (payloadOf f).length = f.length - 6 := by
  rw [payloadOf, List.length_take, List.length_drop]
  omega

theorem payloadOf_getElem (hi : 4 ≤ i) (h : i - 4 < (payloadOf f).length) :
    (payloadOf f)[i - 4] = byteAt f i := by
  have hi' : i < f.length := by
    rw [payloadOf_length] at h
    omega
  simp [payloadOf, byteAt, hi', Nat.add_sub_of_le hi]

/-- In a valid frame, a byte changed behind the header and before the stop byte leaves the decision to
the checksum (R200, R204). -/
theorem validateFrame_set_of_sum_ne (hvalid : validateFrame f = .ok p) (hheader : 4 ≤ i)
    (hstop : i < f.length - 1)
    (hsum : cs8 (payloadOf (f.set i b)) ≠ byteAt (f.set i b) (f.length - 2)) :
    validateFrame (f.set i b) = .err .badChecksum (cs8 (payloadOf (f.set i b))) := by
  obtain ⟨h0, h3, hecho, hlast, -, -⟩ := validateFrame_ok.mp hvalid
  rw [validateFrame_eq, List.length_set, byteAt_set_other (k := 0) (by omega),
    byteAt_set_other (k := 1) (by omega), byteAt_set_other (k := 2) (by omega),
    byteAt_set_other (k := 3) (by omega), byteAt_set_other (k := f.length - 1) (by omega),
    if_neg (by tauto), if_neg (by tauto), if_neg (by tauto), if_pos hsum]

end

/-- Settles O37: a byte of the payload range moves the sum, the checksum byte moves what the sum is
compared with, and byte 1 no longer agrees with its echo. -/
theorem singleByteFlipIsRejected : Obligations.SingleByteFlipIsRejected := by
  intro f p h6 hvalid
  obtain ⟨h0, h3, hecho, -, hsum, rfl⟩ := validateFrame_ok.mp hvalid
  refine ⟨fun i b hi hrange hb => ?payloadByte, fun b hb => ?checksumByte, fun b hb => ?lengthByte⟩
  case payloadByte =>
    have hj : i - 4 < (payloadOf f).length := by rw [payloadOf_length]; omega
    have hmoved : cs8 (payloadOf (f.set i b)) = cs8 (payloadOf f) + (b - f.getD i 0) := by
      rw [payloadOf_set hi, cs8_set hj, payloadOf_getElem hi hj, byteAt]
    refine ⟨hmoved, ?_⟩
    rw [← hmoved]
    refine validateFrame_set_of_sum_ne hvalid hi (by omega) ?_
    rw [byteAt_set_other (by omega), ← hsum, hmoved, Ne, add_eq_left, sub_eq_zero]
    exact hb
  case checksumByte =>
    have hkept : payloadOf (f.set (f.length - 2) b) = payloadOf f := by
      rw [payloadOf_set (by omega), List.set_eq_of_length_le]
      rw [payloadOf_length]
      omega
    rw [← hkept]
    refine validateFrame_set_of_sum_ne hvalid (by omega) (by omega) ?_
    rw [hkept, byteAt_set_same (by omega), hsum]
    exact hb.symm
  case lengthByte =>
    have hdiffer : b ≠ byteAt f 2 := hecho ▸ hb
    rw [validateFrame_eq, byteAt_set_other (k := 0) (by omega), byteAt_set_other (k := 2) (by omega),
      byteAt_set_other (k := 3) (by omega), byteAt_set_same (by omega), if_neg (by tauto),
      if_pos hdiffer, byteAt]

end Sys2Proof.Proofs
end

section
/-! PROOFS. The record decoder and its rows run alone (43_record_decoder.md R220 to R252): the telegrams
CLASSIFY tells apart, the records DECODE finds back to back, the order of RECORD's aborts, the DIF
codings, the VIF classes. -/

namespace Sys2Proof.Proofs

open Sys2Proof.Machine

/-! ### The DIF codings -/

/-- A coding that is not 1 to 4 aborts with the whole DIF byte, whatever bytes follow (R230, R233). -/
theorem codedValue_of_unsupported {d0 : Byte} (c : Nat) (avail : List Byte)
    (hcoding : codingOf d0 < 1 ∨ 4 < codingOf d0) :
    codedValue d0 c avail = .abort .unsupportedWidth d0 := if_pos hcoding

/-- A coding of 1 to 4 with fewer bytes than it names aborts with the record's start (R227). -/
theorem codedValue_of_short {d0 : Byte} (c : Nat) {avail : List Byte} (hpos : 1 ≤ codingOf d0)
    (hle : codingOf d0 ≤ 4) (hshort : avail.length < codingOf d0) :
    codedValue d0 c avail = .abort .truncatedRecord (BitVec.ofNat 8 c) := by
  have hwidth : ¬ (codingOf d0 < 1 ∨ 4 < codingOf d0) := by omega
  simp only [codedValue, if_neg hwidth, if_pos hshort]

theorem runCoding_eq (d0 : Byte) (c : Nat) (avail : List Byte) (s : State) :
    runCoding d0 c avail s = .next { s with res := codedResult (codedValue d0 c avail) } := rfl

section

variable (e : Bool) (fff : BitVec 3) {k : BitVec 4} (c : Nat) (s : State)

theorem runCoding_of_unsupported (avail : List Byte) (hk : k.toNat < 1 ∨ 4 < k.toNat) :
    runCoding (difByte e fff k) c avail s =
      .next { s with res := .abort .unsupportedWidth (difByte e fff k) } := by
  rw [← codingOf_difByte e fff k] at hk
  rw [runCoding_eq, codedValue_of_unsupported c avail hk, codedResult]

theorem runCoding_of_short {avail : List Byte} (hpos : 1 ≤ k.toNat) (hle : k.toNat ≤ 4)
    (hshort : avail.length < k.toNat) :
    runCoding (difByte e fff k) c avail s =
      .next { s with res := .abort .truncatedRecord (BitVec.ofNat 8 c) } := by
  rw [← codingOf_difByte e fff k] at hpos hle hshort
  rw [runCoding_eq, codedValue_of_short c hpos hle hshort, codedResult]

theorem runCoding_append {val : List Byte} (post : List Byte) (hk : k.toNat = val.length)
    (hpos : 1 ≤ val.length) (hle : val.length ≤ 4) :
    runCoding (difByte e fff k) c (val ++ post) s =
      .next { s with res := .value (signedLe val) } := by
  rw [runCoding_eq, codedValue_append c post ((codingOf_difByte e fff k).trans hk) hpos hle,
    codedResult]

end

/-- Settles O48: each of the twelve codings is 0 or above 4. -/
theorem difAbortResult : Obligations.DifAbortResult := by
  intro e fff s aborts haborts
  have hrun : ∀ k : BitVec 4, k.toNat < 1 ∨ 4 < k.toNat →
      runCoding (difByte e fff k) 0 [] s = aborts k := fun k hk => by
    rw [haborts, runCoding_of_unsupported e fff 0 s [] hk, difByte]
  exact ⟨hrun 0x0 (by decide), hrun 0x5 (by decide), hrun 0x6 (by decide), hrun 0x7 (by decide),
    hrun 0x8 (by decide), hrun 0x9 (by decide), hrun 0xA (by decide), hrun 0xB (by decide),
    hrun 0xC (by decide), hrun 0xD (by decide), hrun 0xE (by decide), hrun 0xF (by decide)⟩

/-- The value bytes of an integer coding give the two's complement of their little-endian number `u`. -/
theorem runCoding_signed (e : Bool) (fff : BitVec 3) {k : BitVec 4} (c : Nat) (s : State)
    {val : List Byte} (post : List Byte) {u half : Nat} {whole : Int} (hk : k.toNat = val.length)
    (hpos : 1 ≤ val.length) (hle : val.length ≤ 4) (hu : leNat val = u)
    (hhalf : 2 ^ (8 * val.length - 1) = half) (hwhole : 2 ^ (8 * val.length) = whole) :
    ∃ raw : BitVec 32,
      runCoding (difByte e fff k) c (val ++ post) s = .next { s with res := .value raw } ∧
      raw.toInt = if u < half then (u : Int) else (u : Int) - whole := by
  subst hu hhalf hwhole
  exact ⟨signedLe val, runCoding_append e fff c s post hk hpos hle, signedLe_toInt hpos hle⟩

/-- Settles O49: the coding is the number of value bytes, and the sign is that of a number as wide. -/
theorem difIntegerResult : Obligations.DifIntegerResult := by
  intro e fff c s
  refine ⟨fun b0 post => ?int8, fun b0 b1 post u hu => ?int16, fun b0 b1 b2 post u hu => ?int24,
    fun b0 b1 b2 b3 post u hu => ?int32, ?short⟩
  case int8 =>
    exact runCoding_signed e fff c s (val := [b0]) post rfl (by simp) (by simp)
      (by simp [leNat]) (by simp) (by simp)
  case int16 =>
    exact runCoding_signed e fff c s (val := [b0, b1]) post rfl (by simp) (by simp)
      (by simp only [leNat]; omega) (by simp) (by simp)
  case int24 =>
    exact runCoding_signed e fff c s (val := [b0, b1, b2]) post rfl (by simp) (by simp)
      (by simp only [leNat]; omega) (by simp) (by simp)
  case int32 =>
    exact runCoding_signed e fff c s (val := [b0, b1, b2, b3]) post rfl (by simp) (by simp)
      (by simp only [leNat]; omega) (by simp) (by simp)
  case short =>
    rintro avail _ rfl
    exact ⟨runCoding_of_short e fff c s (k := 1) (by decide) (by decide),
      runCoding_of_short e fff c s (k := 2) (by decide) (by decide),
      runCoding_of_short e fff c s (k := 3) (by decide) (by decide),
      runCoding_of_short e fff c s (k := 4) (by decide) (by decide)⟩

/-! ### The VIF classes -/

/-- The exponent field of a VIF byte made from its bits (R107). -/
theorem vifByte3_and_07 : ∀ (e : Bool) (pattern : BitVec 4) (n : BitVec 3),
    (vifByte3 e pattern n &&& 0x07).toNat = n.toNat := by
  decide

theorem vifByte2_and_03 : ∀ (e : Bool) (pattern : BitVec 5) (n : BitVec 2),
    (vifByte2 e pattern n &&& 0x03).toNat = n.toNat := by
  decide

theorem exponent_vifByte3 {row : VifRow} (h : row.expMask = 0x07) (e : Bool) (pattern : BitVec 4)
    (n : BitVec 3) : exponent row (vifByte3 e pattern n) = (n.toNat : Int) - row.base := by
  rw [exponent, h, vifByte3_and_07]

theorem exponent_vifByte2 {row : VifRow} (h : row.expMask = 0x03) (e : Bool) (pattern : BitVec 5)
    (n : BitVec 2) : exponent row (vifByte2 e pattern n) = (n.toNat : Int) - row.base := by
  rw [exponent, h, vifByte2_and_03]

/-- Settles O50: a class reports its tag, and its exponent field less its base. -/
theorem vifResult : Obligations.VifResult := by
  intro e n m raw v0 s reports hreports
  have hreport : ∀ tag exp10, reportQuantity tag exp10 raw s = reports tag exp10 :=
    fun tag exp10 => (hreports tag exp10).symm
  have class3 : ∀ (row : VifRow) (pattern : BitVec 4), row.expMask = 0x07 →
      runVifClass row (vifByte3 e pattern n) raw s = reports row.tag ((n.toNat : Int) - row.base) :=
    fun row pattern h => by rw [runVifClass, exponent_vifByte3 h, hreport]
  have class2 : ∀ (row : VifRow) (pattern : BitVec 5), row.expMask = 0x03 →
      runVifClass row (vifByte2 e pattern m) raw s = reports row.tag ((m.toNat : Int) - row.base) :=
    fun row pattern h => by rw [runVifClass, exponent_vifByte2 h, hreport]
  exact ⟨class3 energyRow 0x0 rfl, class3 volumeRow 0x2 rfl, class3 powerRow 0x5 rfl,
    class3 flowRow 0x7 rfl, class2 tFlowRow 0x16 rfl, class2 tReturnRow 0x17 rfl,
    class2 tDiffRow 0x18 rfl, hreport .status 0, rfl⟩

/-- Settles O52: a power of ten is not 0. -/
theorem scaleLaw : Obligations.ScaleLaw := fun raw e =>
  mul_div_cancel_right₀ (raw.toInt : Rat) (zpow_ne_zero e (by decide))

/-! ### QCLASS -/

theorem rowMatches_iff {row : VifRow} {v0 : Byte} :
    rowMatches row v0 = true ↔ v0 &&& 0x7F &&& row.mask = row.pattern := beq_iff_eq

/-- Rows that do not match are passed over (R118). -/
theorem tableClass_append {above : List VifRow} {v0 : Byte} (rows : List VifRow)
    (h : ∀ r ∈ above, v0 &&& 0x7F &&& r.mask ≠ r.pattern) :
    tableClass (above ++ rows) v0 = tableClass rows v0 := by
  induction above with
  | nil => rfl
  | cons r above ih =>
    obtain ⟨hr, habove⟩ := List.forall_mem_cons.mp h
    rw [List.cons_append, tableClass, if_neg (mt rowMatches_iff.mp hr), ih habove]

theorem tableClass_cons_of_match {row : VifRow} {v0 : Byte} (below : List VifRow)
    (h : v0 &&& 0x7F &&& row.mask = row.pattern) :
    tableClass (row :: below) v0 = some (row.tag, exponent row v0) := if_pos (rowMatches_iff.mpr h)

theorem tableClass_eq_none {table : List VifRow} {v0 : Byte}
    (h : ∀ r ∈ table, v0 &&& 0x7F &&& r.mask ≠ r.pattern) : tableClass table v0 = none := by
  have := tableClass_append [] h
  rwa [List.append_nil] at this

theorem isStatusMarker_iff {v : Field} {p : List Byte} :
    isStatusMarker v p = true ↔ v.first = 0xFD ∧ 2 ≤ v.length ∧ p[v.start + 1]? = some 0x17 := by
  simp only [isStatusMarker, Bool.and_eq_true, beq_iff_eq, decide_eq_true_eq, and_assoc]

theorem quantityClass_of_marker {table : List VifRow} {v : Field} {p : List Byte}
    (h : isStatusMarker v p = true) : quantityClass table v p = some (.status, 0) := if_pos h

theorem quantityClass_of_not_marker {table : List VifRow} {v : Field} {p : List Byte}
    (h : ¬ isStatusMarker v p = true) : quantityClass table v p = tableClass table v.first := if_neg h

theorem exec_qclass (v : Field) (p : List Byte) (s : State) :
    exec (.qclass v p) s =
      .next { s with res := quantityResult (quantityClass s.cfg.vifTable v p) } := rfl

/-- Settles O46: without the marker the table decides, and it passes over the rows that do not match. -/
theorem qclassResult : Obligations.QclassResult := by
  rintro v p s _ rfl
  rw [← isStatusMarker_iff, exec_qclass]
  refine ⟨fun hmarker => ?marker, fun above below row hmarker htable habove hrow => ?row,
    fun hmarker hnone => ?other⟩
  case marker => rw [quantityClass_of_marker hmarker, quantityResult]
  case row =>
    rw [quantityClass_of_not_marker hmarker, htable, tableClass_append _ habove,
      tableClass_cons_of_match below hrow, quantityResult, exponent]
  case other =>
    rw [quantityClass_of_not_marker hmarker, tableClass_eq_none hnone, quantityResult]

/-! ### RECORD's aborts -/

/-- What stands behind a field begins at its `next` (R222). -/
theorem drop_fieldNext (pre field post : List Byte) (b : Byte) :
    (pre ++ field ++ post).drop (fieldNext ⟨pre.length, b, field.length⟩) = post := by
  rw [fieldNext, ← List.length_append, List.drop_left]

/-- A field that stands behind another is read at the `next` of that one (R222). -/
theorem readField_fieldNext {vif : List Byte} {v0 : Byte} (pre dif post : List Byte) (d0 : Byte)
    (hvif : isField vif) (hv0 : vif[0]? = some v0) :
    readField (pre ++ dif ++ vif ++ post) (fieldNext ⟨pre.length, d0, dif.length⟩) =
      some ⟨(pre ++ dif).length, v0, vif.length⟩ := by
  rw [fieldNext, ← List.length_append, readField_append (pre ++ dif) post hvif hv0]

section

variable {table : List VifRow} {payload : List Byte} {c : Nat} {d v : Field}

theorem recordAt_of_no_dif (hd : readField payload c = none) :
    recordAt table payload c = .abort .truncatedRecord (BitVec.ofNat 8 c) := by
  simp only [recordAt, hd]

theorem recordAt_of_no_vif (hd : readField payload c = some d)
    (hv : readField payload (fieldNext d) = none) :
    recordAt table payload c = .abort .truncatedRecord (BitVec.ofNat 8 c) := by
  simp only [recordAt, hd, hv]

theorem recordAt_of_no_value {code : ErrorCode} {info : Byte} (hd : readField payload c = some d)
    (hv : readField payload (fieldNext d) = some v)
    (hvalue : codedValue d.first c (payload.drop (fieldNext v)) = .abort code info) :
    recordAt table payload c = .abort code info := by
  simp only [recordAt, hd, hv, hvalue]

theorem recordAt_of_no_class {raw : BitVec 32} {w : Nat} (hd : readField payload c = some d)
    (hv : readField payload (fieldNext d) = some v)
    (hvalue : codedValue d.first c (payload.drop (fieldNext v)) = .value raw w)
    (hclass : quantityClass table v payload = none) :
    recordAt table payload c = .abort .unrecognizedQuantity v.first := by
  simp only [recordAt, hd, hv, hvalue, hclass]

end

/-- A coding of 1 to 4 reads a value where enough bytes stand (R234 to R237). -/
theorem codedValue_of_enough {d0 : Byte} (c : Nat) {avail : List Byte} (hpos : 1 ≤ codingOf d0)
    (hle : codingOf d0 ≤ 4) (henough : codingOf d0 ≤ avail.length) :
    ∃ raw w, codedValue d0 c avail = .value raw w := by
  have hlen : (avail.take (codingOf d0)).length = codingOf d0 := List.length_take_of_le henough
  have hvalue := codedValue_append c (avail.drop (codingOf d0)) hlen.symm (by omega) (by omega)
  rw [List.take_append_drop] at hvalue
  exact ⟨_, _, hvalue⟩

/-- Settles O45: each check is reached when those before it pass. -/
theorem recordAborts : Obligations.RecordAborts := by
  intro s pre
  refine ⟨fun tail htail => ?noDif, fun dif tail hdif htail => ?noVif,
    fun dif vif post d0 v0 hdif hvif hd0 hv0 => ?fields⟩
  case noDif =>
    rw [exec_record, recordAt_of_no_dif (readField_eq_none (by rwa [List.drop_left]))]
    rfl
  case noVif =>
    obtain ⟨d0, hd0⟩ : ∃ d0, dif[0]? = some d0 := by
      obtain ⟨start, last, rfl, -, -⟩ := hdif
      exact ⟨_, List.getElem?_eq_getElem (by simp)⟩
    rw [exec_record, recordAt_of_no_vif (readField_append pre tail hdif hd0)
      (readField_eq_none (by rwa [drop_fieldNext]))]
    rfl
  case fields =>
    have hd : readField (pre ++ dif ++ vif ++ post) pre.length =
        some ⟨pre.length, d0, dif.length⟩ := by
      rw [List.append_assoc _ vif, readField_append pre (vif ++ post) hdif hd0]
    have hv := readField_fieldNext pre dif post d0 hvif hv0
    have hbehind := drop_fieldNext (pre ++ dif) vif post v0
    have habort : ∀ {code info}, codedValue d0 pre.length post = .abort code info →
        exec (.record (pre ++ dif ++ vif ++ post) pre.length) s =
          .next { s with res := .abort code info } := fun hvalue => by
      rw [exec_record, recordAt_of_no_value hd hv (by rw [hbehind, hvalue])]
      rfl
    refine ⟨fun hwidth => habort (codedValue_of_unsupported _ _ hwidth),
      fun hpos hle hshort => habort (codedValue_of_short _ hpos hle hshort),
      fun hpos hle henough hmarker hnone => ?_⟩
    obtain ⟨raw, w, hvalue⟩ := codedValue_of_enough pre.length hpos hle henough
    have hclass : quantityClass s.cfg.vifTable ⟨(pre ++ dif).length, v0, vif.length⟩
        (pre ++ dif ++ vif ++ post) = none := by
      rw [quantityClass_of_not_marker (mt (isStatusMarker_append _ post hv0).mp hmarker), hnone]
    rw [exec_record, recordAt_of_no_class hd hv (by rw [hbehind, hvalue]) hclass]
    rfl

/-! ### DECODE -/

/-- From every offset, records stand back to back up to the end of the payload or to the first that
aborts (R221). -/
theorem exists_recordsBetween (table : List VifRow) (p : List Byte) (c : Nat) :
    ∃ rs stop, recordsBetween table p stop c rs ∧
      (p.length ≤ stop ∨
        stop < p.length ∧ ∃ code info, recordAt table p stop = .abort code info) := by
  by_cases hend : p.length ≤ c
  · exact ⟨[], c, rfl, .inl hend⟩
  have hc : c < p.length := Nat.lt_of_not_le hend
  match hr : recordAt table p c with
  | .abort code info => exact ⟨[], c, rfl, .inr ⟨hc, code, info, hr⟩⟩
  | .record tag raw exp10 next =>
    have hmoves := recordAt_record hr
    obtain ⟨rs, stop, hrs, hstop⟩ := exists_recordsBetween table p next
    exact ⟨(tag, raw, exp10) :: rs, stop, ⟨hc, next, hr, hrs⟩, hstop⟩
termination_by p.length - c
decreasing_by omega

theorem foldl_or_tagBit (rs : List (Tag × BitVec 32 × Int)) (m : Byte) :
    rs.foldl (fun m r => m ||| tagBit r.1) m = m ||| seenMask rs := by
  induction rs generalizing m with
  | nil => simp [seenMask]
  | cons r rs ih =>
    have hcons : seenMask (r :: rs) = rs.foldl (fun m r => m ||| tagBit r.1) (tagBit r.1) := by
      simp [seenMask]
    rw [hcons, List.foldl_cons, ih, ih (tagBit r.1), BitVec.or_assoc]

theorem seenMask_cons (r : Tag × BitVec 32 × Int) (rs : List (Tag × BitVec 32 × Int)) :
    seenMask (r :: rs) = tagBit r.1 ||| seenMask rs := by
  rw [seenMask, List.foldl_cons, foldl_or_tagBit]
  simp

section

variable {p : List Byte} {cur : Nat} {seen : Byte} {s : State} (fuel : Nat)

theorem decodeLoop_of_end (h : p.length ≤ cur) :
    decodeLoop fuel p cur seen s = emit (.telegramDone seen) s := by
  cases fuel with
  | zero => rfl
  | succ fuel => rw [decodeLoop, if_neg (Nat.not_lt.mpr h)]

theorem decodeLoop_of_abort {code : ErrorCode} {info : Byte} (h : cur < p.length)
    (hr : recordAt s.cfg.vifTable p cur = .abort code info) :
    decodeLoop (fuel + 1) p cur seen s = raiseError code info (0xFF &&& ~~~seen) s := by
  rw [decodeLoop, if_pos h, hr]

theorem decodeLoop_of_record {tag : Tag} {raw : BitVec 32} {exp10 : Int} {next : Nat}
    (h : cur < p.length) (hr : recordAt s.cfg.vifTable p cur = .record tag raw exp10 next) :
    decodeLoop (fuel + 1) p cur seen s =
      decodeLoop fuel p next (seen ||| tagBit tag) (emit (.record tag raw exp10) s) := by
  rw [decodeLoop, if_pos h, hr]

/-- The loop runs through records that stand back to back with one round for each: it emits them and
notes their tags (R221). -/
theorem decodeLoop_of_recordsBetween {stop : Nat} {rs : List (Tag × BitVec 32 × Int)}
    (h : recordsBetween s.cfg.vifTable p stop cur rs) :
    decodeLoop (fuel + rs.length) p cur seen s =
      decodeLoop fuel p stop (seen ||| seenMask rs) { s with out := s.out ++ rs.map recordEvent } := by
  induction rs generalizing cur seen s with
  | nil => obtain rfl := h; simp [seenMask]
  | cons r rs ih =>
    obtain ⟨hcur, next, hr, hrs⟩ := h
    rw [List.length_cons, ← Nat.add_assoc, decodeLoop_of_record _ hcur hr,
      ih (s := emit (.record r.1 r.2.1 r.2.2) s) hrs, seenMask_cons, BitVec.or_assoc]
    simp [emit, recordEvent]

end

theorem exec_decode (p : List Byte) (s : State) :
    exec (.decode p) s = .next (decodePayload p s) := rfl

/-- What DECODE's loop is left with behind the records that stand back to back from REC_START on. -/
theorem exec_decode_of_recordsBetween {p : List Byte} {s : State} {stop : Nat}
    {rs : List (Tag × BitVec 32 × Int)}
    (h : recordsBetween s.cfg.vifTable p stop s.cfg.recStart rs) :
    exec (.decode p) s =
      .next (decodeLoop p.length p stop (seenMask rs)
        { s with out := s.out ++ rs.map recordEvent }) := by
  have hfuel := decodeLoop_fuel p p.length s.cfg.recStart 0 s (by omega) rs.length
  rw [decodeLoop_of_recordsBetween _ h] at hfuel
  rw [exec_decode, decodePayload, ← hfuel]
  simp

/-- Settles O42: behind the records that stand back to back the payload ends, or one record aborts. -/
theorem decodeOutcome : Obligations.DecodeOutcome := by
  refine ⟨by decide, fun p s => ?_⟩
  obtain ⟨rs, stop, hrs, hstop⟩ := exists_recordsBetween s.cfg.vifTable p s.cfg.recStart
  refine ⟨rs, stop, hrs, ?_⟩
  rw [exec_decode_of_recordsBetween hrs]
  obtain hend | ⟨hlt, code, info, habort⟩ := hstop
  · rw [decodeLoop_of_end _ hend]
    exact .inl ⟨hend, rfl⟩
  · refine .inr ⟨hlt, code, info, habort, ?_⟩
    rw [← decodeLoop_fuel p p.length stop _ _ (by omega) 1,
      decodeLoop_of_abort (s := { s with out := s.out ++ rs.map recordEvent }) _ hlt habort]
    simp [raiseError, emit]

/-! ### CLASSIFY -/

theorem isDataTelegram_iff {cfg : Config} {p : List Byte} :
    isDataTelegram cfg p = true ↔
      cfg.recStart ≤ p.length ∧ ∀ q ∈ cfg.dataSig, q.1 < p.length ∧ p[q.1]? = some q.2 := by
  have hheld : ∀ q : Nat × Byte, p[q.1]? = some q.2 → q.1 < p.length := fun q hq =>
    (List.getElem?_eq_some_iff.mp hq).1
  simp only [isDataTelegram, Bool.and_eq_true, decide_eq_true_eq, List.all_eq_true, beq_iff_eq]
  exact and_congr_right fun _ => forall₂_congr fun q _ => ⟨fun hq => ⟨hheld q hq, hq⟩, And.right⟩

section

variable {p : List Byte} {s : State}

theorem classifyPayload_of_data (wasInit : Bool) (h : isDataTelegram s.cfg p = true) :
    classifyPayload p wasInit s = decodePayload p s := if_pos h

theorem classifyPayload_of_not_data (wasInit : Bool) (h : ¬ isDataTelegram s.cfg p = true) :
    classifyPayload p wasInit s =
      if wasInit then emit .initReply s
      else raiseError .unknownTelegramShape (p.headD 0) 0xFF s := if_neg h

end

theorem exec_classify (p : List Byte) (wasInit : Bool) (s : State) :
    exec (.classify p wasInit) s = .next (classifyPayload p wasInit s) := rfl

/-- Settles O41: the signature decides first, then the operand. -/
theorem classifyResult : Obligations.ClassifyResult := by
  rintro p s _ rfl
  rw [← isDataTelegram_iff]
  refine ⟨fun hdata wasInit => ?data, fun hother => ?reply, fun hother => ?error⟩
  case data => rw [exec_classify, classifyPayload_of_data wasInit hdata, exec_decode]
  case reply => rw [exec_classify, classifyPayload_of_not_data true hother]; rfl
  case error =>
    rw [exec_classify, classifyPayload_of_not_data false hother, if_neg Bool.false_ne_true,
      raiseError_emits]
    rfl

end Sys2Proof.Proofs
end

section
/-! PROOFS. The timing supervisor and the silence delay (44_timing_supervisor.md R281 to R290): the times
and the codes that R283 and R285 speak of, against the model's own conditions, then the rows of the
table. -/

namespace Sys2Proof.Proofs

open Sys2Proof.Machine

/-! ### The conditions of the two timeouts -/

/-- An elapsed time is the difference modulo 2^32, across a wrap of the clock too (R281). -/
theorem elapsed_eq (now t : Time) : elapsed now t = (now.toNat + 2 ^ 32 - t.toNat) % 2 ^ 32 := by
  rw [elapsed, BitVec.toNat_sub]
  omega

/-- The `acked` flag is bit 4 of an `init_step` other than 0xFF (R30, R32). -/
theorem acked_iff_initCode (i : InitStep) :
    acked i = true ↔ initCode i ≠ 0xFF ∧ initCode i &&& 0x10 ≠ 0 := by
  cases i <;> decide

theorem linkTimedOut_iff (now : Time) (s : State) :
    linkTimedOut now s ↔ (s.replyPending = true ∨ s.len ≠ 0) ∧
      500 + s.silenceMs.toNat < min (elapsed now s.lastRxMs) (elapsed now s.lastTxMs) := Iff.rfl

theorem gapPassed_iff (now : Time) (s : State) :
    gapPassed now s ↔ initCode s.initStep ≠ 0xFF ∧ initCode s.initStep &&& 0x10 ≠ 0 ∧
      20 ≤ elapsed now s.lastRxMs := by
  rw [gapPassed, acked_iff_initCode, and_assoc, initGapMs]

/-! ### The rows of the supervisor -/

section

variable {now : Time} {s : State}

theorem exec_tmoLink_of_timedOut (h : linkTimedOut now s) :
    exec (.tmoLink now) s = .next (linkTimeout s) := congrArg _ (if_pos h)

theorem exec_tmoLink_of_not_timedOut (h : ¬ linkTimedOut now s) :
    exec (.tmoLink now) s = .next s := congrArg _ (if_neg h)

theorem exec_tmoGap_of_passed (h : gapPassed now s) :
    exec (.tmoGap now) s = .next (setTrigger s) := congrArg _ (if_pos h)

theorem exec_tmoGap_of_not_passed (h : ¬ gapPassed now s) :
    exec (.tmoGap now) s = .next s := congrArg _ (if_neg h)

end

/-- Settles O53: each rule acts exactly under its condition, and SUPERVISE is TMO.GAP on what TMO.LINK
leaves. -/
theorem superviseResult : Obligations.SuperviseResult := by
  rintro now s _ _ rfl rfl
  rw [← elapsed_eq, ← elapsed_eq, ← linkTimedOut_iff, ← gapPassed_iff]
  refine ⟨fun hlink => ?_, exec_tmoLink_of_not_timedOut, exec_tmoGap_of_passed,
    exec_tmoGap_of_not_passed, tmoLink now s, tmoGap now (tmoLink now s), rfl, rfl, rfl⟩
  rw [exec_tmoLink_of_timedOut hlink, linkTimeout_eq, inInit_eq]

/-! ### The silence delay -/

theorem exec_silence (n : Nat) (s : State) :
    exec (.silence n) s = .next { s with silenceMs := silenceRegister n } := rfl

/-- Settles O54: the 10 bits of the register hold R290's value up to 223 bytes. -/
theorem silenceResult : Obligations.SilenceResult := by
  intro n s
  obtain ⟨hfits, hvalue⟩ | ⟨hwide, hfree⟩ := silenceRegister_cases n
  · exact ⟨fun _ => ⟨silenceRegister n, hvalue, exec_silence n s⟩, fun hbeyond => by omega⟩
  · exact ⟨fun hle => by omega, fun _ => by rw [exec_silence, hfree]⟩

end Sys2Proof.Proofs
end

section
/-! PROOFS. The handshake sequencer (45_handshake_sequencer.md R300 to R320): the request frames byte by
byte, what SEND does from each `init_step`, and that nothing but RESET leaves the steady state. -/

namespace Sys2Proof.Proofs

open Sys2Proof.Machine

/-! ### The steady state -/

/-- Settles O11: an acknowledgment and a SEND both leave the steady state as it is, and a step without
RESET has nothing else that writes `init_step`. -/
theorem steadyStateIsPermanent : Obligations.SteadyStateIsPermanent := by
  intro s t hsteady hreset h
  obtain ⟨_, rfl⟩ | ⟨hpending, _⟩ | ⟨u, heffects, hsend⟩ := step_effects h
  · exact hsteady
  · exact absurd hpending hreset
  have hu : u.initStep = .steady := by
    obtain hkept | hacked := initStep_of_effects heffects
    · rw [hkept, beginInput_initStep, hsteady]
    · rw [hacked, beginInput_initStep, hsteady, setAcked]
  obtain rfl | ⟨now, rfl⟩ := hsend
  · exact hu
  · rw [sendOp_initStep, hu, afterSend]

/-! ### SEND by the step it enters -/

/-- The frame of the ROM that goes out when a handshake step is entered or retried (R311 to R315); the
other values of `init_step` have none. -/
def romFrame : InitStep → Option (List Byte)
  | .step1 => some req1Frame
  | .step2 => some req2Frame
  | .step3 => some req3Frame
  | .step4 => some req4Frame
  | .step5 => some req5Frame
  | .idle | .idleAcked | .step1Acked | .step2Acked | .step3Acked | .step4Acked | .step5Acked
  | .steady => none

/-- The values of `init_step` from which SEND enters each step (R31, R320). -/
theorem afterSend_eq_iff (i : InitStep) :
    (afterSend i = .step1 ↔ i = .idle ∨ i = .idleAcked ∨ i = .step1) ∧
    (afterSend i = .step2 ↔ i = .step1Acked ∨ i = .step2) ∧
    (afterSend i = .step3 ↔ i = .step2Acked ∨ i = .step3) ∧
    (afterSend i = .step4 ↔ i = .step3Acked ∨ i = .step4) ∧
    (afterSend i = .step5 ↔ i = .step4Acked ∨ i = .step5) ∧
    (afterSend i = .steady ↔ i = .step5Acked ∨ i = .steady) := by
  cases i <;> decide

theorem afterSend_eq_steady_iff {i : InitStep} :
    afterSend i = .steady ↔ i = .step5Acked ∨ i = .steady := by
  obtain ⟨_, _, _, _, _, hsteady⟩ := afterSend_eq_iff i
  exact hsteady

theorem exec_send (now : Time) (s : State) : exec (.send now) s = .next (sendOp now s) := rfl

section

variable {s : State} {i : InitStep} {f : List Byte} {ms : BitVec 10}

theorem sendFrame_of_romFrame (hf : romFrame (afterSend s.initStep) = some f) : sendFrame s = f := by
  unfold sendFrame
  cases hs : s.initStep with
  | step5Acked | steady =>
    rw [hs] at hf
    cases hf
  | idle | idleAcked | step1 | step1Acked | step2 | step2Acked | step3 | step3Acked | step4
  | step4Acked | step5 =>
    rw [hs] at hf
    exact Option.some.inj hf

theorem sendFrame_of_steady (h : s.initStep = .step5Acked ∨ s.initStep = .steady) :
    sendFrame s = builtPoll s := by
  obtain h | h := h <;> rw [sendFrame, h]

/-- SEND into a step of the handshake transmits the step's frame and keeps `fcb` (R310 to R315). -/
theorem exec_send_of_romFrame (now : Time) (hi : afterSend s.initStep = i) (hf : romFrame i = some f)
    (hms : silenceRegister f.length = ms) :
    exec (.send now) s =
      .next { s with sendTrigger := false, initStep := i, replyPending := true, lastTxMs := now,
                     silenceMs := ms, out := s.out ++ [.tx f] } := by
  subst hi hms
  have hinit : ¬ (s.initStep = .step5Acked ∨ s.initStep = .steady) := fun hlast => by
    rw [afterSend_eq_steady_iff.mpr hlast] at hf
    cases hf
  rw [exec_send, sendOp_eq, if_neg hinit, sendFrame_of_romFrame hf]

/-- SEND after the handshake transmits the poll frame that POLLBUILD builds (R316). -/
theorem exec_send_of_steady (now : Time)
    (h : s.initStep = .step5Acked ∨ s.initStep = .steady) :
    exec (.send now) s =
      .next { s with sendTrigger := false, initStep := .steady, fcb := !s.fcb, replyPending := true,
                     lastTxMs := now, silenceMs := 105, out := s.out ++ [.tx (builtPoll s)] } := by
  have hms : silenceRegister (builtPoll s).length = 105 := by
    rw [builtPoll, pollFrame_length]
    decide
  rw [exec_send, sendOp_eq, if_pos h, sendFrame_of_steady h, afterSend_eq_steady_iff.mpr h, hms]

end

/-- Settles O55: the `init_step` found decides the step entered, and that step decides the frame. -/
theorem sendResult : Obligations.SendResult := by
  intro now s sends hsends
  simp only [hsends]
  obtain ⟨hstep1, hstep2, hstep3, hstep4, hstep5, _⟩ := afterSend_eq_iff s.initStep
  have hsilence4 : silenceRegister req4Frame.length = 572 := by
    rw [req4Frame_length]
    decide
  exact ⟨fun h => exec_send_of_romFrame now (hstep1.mpr h) rfl (by decide),
    fun h => exec_send_of_romFrame now (hstep2.mpr h) rfl (by decide),
    fun h => exec_send_of_romFrame now (hstep3.mpr h) rfl (by decide),
    fun h => exec_send_of_romFrame now (hstep4.mpr h) rfl hsilence4,
    fun h => exec_send_of_romFrame now (hstep5.mpr h) rfl (by decide),
    fun h => exec_send_of_steady now h⟩

/-! ### The request frames -/

/-- The zero bytes of REQ4's payload add nothing to its checksum (R304). -/
theorem cs8_req4Payload : cs8 req4Payload = 0xD4 := by
  rw [cs8_eq_sum, req4Payload, List.sum_append, List.sum_replicate, smul_zero]
  decide

theorem req4Frame_eq : req4Frame = [0x68, 0x77, 0x77, 0x68] ++ req4Payload ++ [0xD4, 0x16] := by
  rw [req4Frame, cs8_req4Payload]

/-- A poll frame with its checksum as the sum of its payload (R205, R306). -/
theorem pollFrame_eq (mask : Byte) (fcb : Bool) {b4 : Byte}
    (hb4 : b4 = if fcb then 0x53 ||| mask else 0x53) :
    pollFrame mask fcb = [0x68, 0x11, 0x11, 0x68] ++ pollPayload b4 ++
      [BitVec.ofNat 8 (byteSum (pollPayload b4)), 0x16] := by
  rw [pollFrame_eq_longFrame, ← hb4, longFrame, cs8_eq_ofNat_byteSum]
  rfl

theorem exec_req4 (s : State) : exec .req4 s = .next { s with res := .frame req4Frame } := rfl

theorem exec_pollframe (fcb : Bool) (s : State) :
    exec (.pollframe fcb) s = .next { s with res := .frame (pollFrame s.cfg.fcbMask fcb) } := rfl

/-- Settles O56: four frames as the ROM holds them, REQ4 with its computed checksum, and the poll frame
around the payload with the frame-control bit. -/
theorem requestFramesResult : Obligations.RequestFramesResult := by
  intro s leaves hleaves
  simp only [hleaves]
  refine ⟨rfl, rfl, rfl, ?req4, rfl, fun fcb b4 hb4 => ?poll, fun hmask => ?specPoll⟩
  case req4 =>
    rw [exec_req4, req4Frame_eq]
    rfl
  case poll =>
    rw [exec_pollframe, pollFrame_eq _ fcb hb4]
    rfl
  case specPoll =>
    rw [exec_pollframe, exec_pollframe, hmask]
    exact ⟨rfl, rfl⟩

/-! ### POLLBUILD and TX -/

theorem exec_pollbuild (s : State) :
    exec .pollbuild s = .next { s with fcb := !s.fcb, res := .frame (builtPoll s) } := rfl

/-- Settles O58: the frame is the poll frame of the toggled bit. -/
theorem pollbuildResult : Obligations.PollbuildResult := by
  intro s b4 hb4
  have htoggled : b4 = if !s.fcb then 0x53 ||| s.cfg.fcbMask else 0x53 := by
    rw [hb4]
    cases s.fcb <;> rfl
  exact ⟨builtPoll s, exec_pollbuild s, pollFrame_eq s.cfg.fcbMask (!s.fcb) htoggled⟩

/-- Settles O59: TX is the emission of the frame. -/
theorem txResult : Obligations.TxResult := fun _ _ => rfl

end Sys2Proof.Proofs
end

section
/-! PROOFS. What a step does when no operation runs (60_exceptions.md R377; log 2, log 3), and the error
entry sequence run alone (R366, with the codes of R360). -/

namespace Sys2Proof.Proofs

open Sys2Proof.Machine

/-! ### The steps that run no operation -/

theorem step_of_no_input {s : State} (hs : s.inputs = []) : step s = .next s := by
  have hpending : pendingInput s = none := by rw [pendingInput, hs, List.head?_nil]
  simp only [step, hpending]

theorem step_of_undecodable {s : State} {x : Input} {rest : List Input} {why : Reject}
    (hs : s.inputs = x :: rest) (hdec : inputInstr s x = .error why) :
    step s = .refused (.undecodable why) := by
  have hpending : pendingInput s = some x := by rw [pendingInput, hs, List.head?_cons]
  simp only [step, hpending, hdec]

/-- Settles O2: with no input there is nothing to take, and an input is decoded before it is taken. -/
theorem stepWithoutOperation : Obligations.StepWithoutOperation :=
  ⟨fun _ hs => step_of_no_input hs, fun _ _ _ _ hs hdec => step_of_undecodable hs hdec⟩

/-! ### RAISE -/

theorem exec_raise (code : ErrorCode) (info mask : Byte) (s : State) :
    exec (.raise code info mask) s = .next (raiseError code info mask s) := rfl

/-- ERR among the outputs is what `err_last` records; the NODATA behind it records nothing (R39). -/
theorem recordedError_err_noData (e : BitVec 4) (code : ErrorCode) (info mask : Byte) :
    recordedError e [.err code info, .noData mask] = BitVec.ofNat 4 (errorNumber code) := rfl

/-- Settles O60: the codes by the table of R360, and RAISE as the entry sequence's two outputs with the
error they record. -/
theorem raiseResult : Obligations.RaiseResult := by
  refine ⟨?codes, fun code info mask s => ?entry⟩
  case codes => decide
  case entry => rw [exec_raise, raiseError_emits, recordedError_err_noData]

end Sys2Proof.Proofs
end

section
/-! PROOFS. What no operation writes (70_reset_and_hazards.md R415; log 2): the configuration and the
inputs still to come. Only the step itself takes an input, before it runs the operation. -/

namespace Sys2Proof.Proofs

open Sys2Proof.Machine

/-- From `s` to `t` the parts that no operation writes are kept. -/
def KeepsSetting (s t : State) : Prop := t.cfg = s.cfg ∧ t.inputs = s.inputs

theorem KeepsSetting.refl (s : State) : KeepsSetting s s := ⟨rfl, rfl⟩

theorem KeepsSetting.trans {s t u : State} : KeepsSetting s t → KeepsSetting t u → KeepsSetting s u
  | ⟨hcfg, hinputs⟩, ⟨hcfg', hinputs'⟩ => ⟨hcfg'.trans hcfg, hinputs'.trans hinputs⟩

theorem keepsSetting_of_effect {s t : State} (h : Effect s t) : KeepsSetting s t := by
  cases h with
  | note => exact ⟨rfl, rfl⟩
  | close => exact ⟨rfl, rfl⟩
  | byte b now taken =>
    obtain ⟨_, _, _, ht, _⟩ := rxByte_shape taken
    exact ⟨by rw [ht], by rw [ht]⟩

theorem keepsSetting_of_effects {s t : State} (h : Effects s t) : KeepsSetting s t := by
  induction h with
  | refl => exact .refl s
  | tail _ hlast ih => exact ih.trans (keepsSetting_of_effect hlast)

theorem keepsSetting_sendOp (now : Time) (s : State) : KeepsSetting s (sendOp now s) := by
  rw [sendOp_eq]
  exact ⟨rfl, rfl⟩

theorem keepsSetting_of_effectsThenSend {s t : State} : EffectsThenSend s t → KeepsSetting s t := by
  rintro ⟨u, heffects, rfl | ⟨now, rfl⟩⟩
  · exact keepsSetting_of_effects heffects
  · exact (keepsSetting_of_effects heffects).trans (keepsSetting_sendOp now u)

theorem keepsSetting_resetRegisters (s : State) : KeepsSetting s (resetRegisters s) :=
  ⟨resetRegisters_cfg s, resetRegisters_inputs s⟩

/-- Settles O15: a held state has no input to take; otherwise the operation keeps the setting of the
state it starts in, from which the step has taken the first input. -/
theorem stepConsumesOneInput : Obligations.StepConsumesOneInput := by
  intro s t h
  have taken : KeepsSetting (beginInput s) t → t.cfg = s.cfg ∧ t.inputs = s.inputs.tail := by
    rw [KeepsSetting, beginInput_cfg, beginInput_inputs]
    exact id
  obtain ⟨hnone, rfl⟩ | ⟨_, rfl⟩ | hrun := step_effects h
  · exact ⟨rfl, by rw [hnone, List.tail_nil]⟩
  · exact taken (keepsSetting_resetRegisters _)
  · exact taken (keepsSetting_of_effectsThenSend hrun)

end Sys2Proof.Proofs
end
